-- ==== Sys2Proof/Word.lean ====
section
/-! DEFINITION. The words of the sequencer: bit sequences, command words, pulses, and the types of time and pins. -/

namespace Sys2Proof

/-- A bit sequence, first element first on air (20_memory.md R60; notation of 00_scope.md section 5). -/
abbrev Bits := List Bool

/-- A command word, taken whole (30_encoding.md R80, 20_memory.md R68). -/
abbrev CommandWord := BitVec 32

/-- A pulse: a level (`true` is `on`, the value 1 of `TX`) and how many ticks it lasts (41_modulator.md R150). -/
structure Pulse where
  level : Bool
  duration : Nat
deriving DecidableEq, Repr

/-- The length of a tick: a positive real number of seconds (92_eei_decisions.md D1). The field's default shows only that
the type has a value; an opaque constant of the type shows none. -/
structure TickLength where
  seconds : ℝ := 1
  positive : 0 < seconds := by norm_num
deriving Inhabited

/-- The electrical sense of a pin (92_eei_decisions.md D2). -/
inductive PinSense where
  | activeHigh
  | activeLow
deriving DecidableEq, Repr, Inhabited

end Sys2Proof
end

