-- ==== Sys2Proof/Machine/Bits.lean ====
section
/-! DEFINITION. The bit-sequence helpers of the spec's notation (00_scope.md section 5): `bits_N` and `val`. -/

namespace Sys2Proof.Machine

/-- `bits_N(v)`: the N bits of `v`, most significant first (20_memory.md R61). -/
def natBits : Nat → Nat → Bits
  | 0, _ => []
  | n + 1, v => v.testBit n :: natBits n v

/-- `bits_N(v)` of an N-bit word. -/
def wordBits {n : Nat} (v : BitVec n) : Bits := natBits n v.toNat

/-- `val(s)`: the number whose most significant bit is the first element. -/
def bitsVal (b : Bits) : Nat := b.foldl (fun n x => 2 * n + x.toNat) 0

/-- The number at the positions `p` to `p + n - 1` of a bit sequence. -/
def bitsNumber (b : Bits) (p n : Nat) : Nat := bitsVal ((b.drop p).take n)

/-- The word made of the positions `p` to `p + n - 1` of a bit sequence. -/
def bitsField (b : Bits) (p n : Nat) : BitVec n := BitVec.ofNat n (bitsNumber b p n)

end Sys2Proof.Machine
end

