-- ==== Sys2Proof/Machine/Ports.lean ====
section
/-! DEFINITION. The input ports of the sequencer, as sampled at one tick. -/

namespace Sys2Proof.Machine

/-- The input ports but the clock (10_state.md R21): one value of this type is what a tick samples. -/
structure Inputs where
  rst : Bool
  cmdValid : Bool
  cmd : CommandWord
  readyIn : Bool
  busErr : Bool
  probeBus : Bool
  probeIrq : Bool
  probeSdn : Bool
deriving DecidableEq, Repr, Inhabited

/-- Every input 0: what a row of 95_test_vectors.md part 3 that lists no input means. -/
def Inputs.quiet : Inputs :=
  ⟨false, false, 0, false, false, false, false, false⟩

end Sys2Proof.Machine
end

