-- ==== Sys2Proof/Syntax.lean ====
section
/-! DEFINITION. The instructions: one constructor per row of spec/opcode_table.json, with its operands. -/

namespace Sys2Proof

/-- A fan command: the four that the source names, and those a replacement `FAN_SET` may add (00_scope.md R8;
30_encoding.md R84). Which of them a machine knows, and in which order of intensity, is `Config.fanSet`; the 3-bit `FAN` field has
room for eight (assumption 4). -/
inductive FanCommand where
  | off
  | low
  | medium
  | high
  | further (k : Fin 4)
deriving DecidableEq, Repr

/-- A light command after quantization: a percentage of 0 to 100, or the setting of the light off or on
(30_encoding.md R85). The type has exactly the 103 values of 30_encoding.md R86. -/
inductive LightCommand where
  | level (percent : Fin 101)
  | onOff (on : Bool)
deriving DecidableEq, Repr

/-- The light operand of a TXS word as the word holds it, legal or not: the fields `LM` and `LVAL`
(30_encoding.md R80, R85). -/
structure LightField where
  lm : Bool
  lval : BitVec 7
deriving DecidableEq, Repr

/-- The entries of the timing table (30_encoding.md R92, 41_modulator.md R151). -/
inductive Symbol where
  | sync
  | sym0
  | sym1
deriving DecidableEq, Repr

/-- One constructor per row of spec/opcode_table.json. Operands are as wide as their fields, so that an illegal
operand can be presented and refused (30_encoding.md R82); `none` stands for a valid bit of 0, where the field is
ignored (R88). A packet word holds no check field: it is computed from the others (40_codec.md R129, R132). -/
inductive Instr where
  /-- Command word, `OP` 1 (43_backend.md R211). -/
  | select
  /-- Command word, `OP` 2: `ADDR`, `FAN` under `FV`, `PWR` under `PV` (42_handshake.md R171). -/
  | txd (addr : BitVec 8) (fan : Option (BitVec 3)) (power : Option (BitVec 3))
  /-- Command word, `OP` 3: `ADDR`, `FAN` under `FV`, `LM` and `LVAL` under `LV`, `PWR` under `PV` (42_handshake.md R181). -/
  | txs (addr : BitVec 8) (fan : Option (BitVec 3)) (light : Option LightField) (power : Option (BitVec 3))
  /-- Command word, `OP` 4 (43_backend.md R214). -/
  | close
  /-- Packet word `0101aaaaffcc` (30_encoding.md R90, 40_codec.md R127). -/
  | pktDumb (addr : BitVec 4) (fan : FanCommand)
  /-- Packet word `1010aaaaffllllllllcccc` (30_encoding.md R91, 40_codec.md R130). -/
  | pktSmart (addr : BitVec 4) (fan : FanCommand) (light : LightCommand)
  /-- Symbol `11110000` of the timing table (30_encoding.md R92). -/
  | sync
  /-- Symbol `100` of the timing table: a 0 bit (30_encoding.md R92). -/
  | sym0
  /-- Symbol `110` of the timing table: a 1 bit (30_encoding.md R92). -/
  | sym1
deriving DecidableEq, Repr

end Sys2Proof
end

