-- ==== Sys2Proof/Config.lean ====
section
/-! DEFINITION. The configuration parameters (00_scope.md R8) as one record, and the values the spec leaves open. -/

namespace Sys2Proof

/-- The parameters of 00_scope.md R8, all of them. `ADDR_BITS`, `ADDR_MAX` and `LIGHT_MAX` have the status Source: the
source fixes their values, and `Config.conforming` admits no other (assumption 4). -/
structure Config where
  /-- `ADDR_BITS`, the width of an address on the wire. -/
  addrBits : Nat
  /-- `ADDR_MAX`, the largest address. -/
  addrMax : Nat
  /-- `FAN_SET`, the fan commands in increasing intensity; a command's code is its place (30_encoding.md R84). -/
  fanSet : List FanCommand
  /-- `FAN_BITS`, the width of the fan code on the wire. -/
  fanBits : Nat
  /-- `LIGHT_MAX`, the largest light percentage. -/
  lightMax : Nat
  /-- `LIGHT_BITS`, the width of the light field on the wire. -/
  lightBits : Nat
  /-- `LIGHT_QUANT` (40_codec.md R125). -/
  lightQuant : Fin 101 → Fin 101
  /-- `L_DUMB`, the length of a dumb packet. -/
  lDumb : Nat
  /-- `L_SMART`, the length of a smart packet. -/
  lSmart : Nat
  /-- `PRE_DUMB`, first bit first. -/
  preDumb : Bits
  /-- `PRE_SMART`, first bit first. -/
  preSmart : Bits
  /-- `CHK_DUMB` (40_codec.md R129): address, fan code. -/
  chkDumb : BitVec 4 → BitVec 3 → BitVec 2
  /-- `CHK_SMART` (40_codec.md R132): address, fan code, light code. -/
  chkSmart : BitVec 4 → BitVec 3 → BitVec 8 → BitVec 4
  /-- `SYNC` (30_encoding.md R92). -/
  sync : List Pulse
  /-- `SYM0` (30_encoding.md R92). -/
  sym0 : List Pulse
  /-- `SYM1` (30_encoding.md R92). -/
  sym1 : List Pulse
  /-- `READY_TIMEOUT` in ticks (42_handshake.md R176). -/
  readyTimeout : Nat
  /-- `PWR_MAX`, the largest legal power level (30_encoding.md R87). -/
  pwrMax : Nat
  /-- `PWR_REG_ADDR` (20_memory.md R69). -/
  pwrRegAddr : BitVec 8
  /-- `PWR_CODE` (42_handshake.md R175). -/
  pwrCode : BitVec 3 → BitVec 8
  /-- `FAN_DEFAULT`, the reset value of `LAST_FAN`. -/
  fanDefault : FanCommand
  /-- `LIGHT_DEFAULT`, the reset value of `LAST_LIGHT`. -/
  lightDefault : LightCommand
  /-- `T_UNIT`, the length of a tick (no rule of the step reads it). -/
  tUnit : TickLength
  /-- `EN_PIN_SENSE` (no rule of the step reads it). -/
  enPinSense : PinSense
  /-- `READY_PIN_SENSE` (no rule of the step reads it). -/
  readyPinSense : PinSense

namespace Config

/-! The OPEN parameters: constants with no body, so that nothing can be proved of their values (assumption 2). -/

/-- `READY_TIMEOUT - 1`: the bound itself is this plus 1, so that it is at least 1. -/
opaque openReadyTimeoutLess1 : Nat
/-- `PWR_REG_ADDR`. -/
opaque openPwrRegAddr : BitVec 8
/-- `PWR_CODE`. -/
opaque openPwrCode : BitVec 3 → BitVec 8
/-- `T_UNIT`. -/
opaque openTUnit : TickLength
/-- `EN_PIN_SENSE`. -/
opaque openEnPinSense : PinSense
/-- `READY_PIN_SENSE`. -/
opaque openReadyPinSense : PinSense

/-! Free values: constants with no body, applied to the model's tick counter. -/

/-- The input ports at a tick for which the state holds none (10_state.md R20: free inputs; assumption 1). -/
opaque freeInputs : Nat → Machine.Inputs
/-- `PWR_L` after the acceptance of a command that supplies no power level (assumption 6). -/
opaque freePowerLevel : Nat → BitVec 3
/-- The level of a pulse position outside the pulse sequence (assumption 7). -/
opaque freeLevel : Nat → Bool

end Config

end Sys2Proof
end

