-- ==== Sys2Proof/Machine/Operands.lean ====
section
/-! DEFINITION. Operand assembly: the codes of fan and light commands and the operands of a command word
(30_encoding.md R82 to R89), validation (40_codec.md R122) and the resolving of absent smart fields (R124). -/

namespace Sys2Proof.Machine

/-- The fan code, the same in the command word, the register and the packet: the command's place in `FAN_SET`
(30_encoding.md R84), as the 3-bit `FAN` field holds it. -/
def fanCode (c : Config) (f : FanCommand) : BitVec 3 := BitVec.ofNat 3 (c.fanSet.idxOf f)

/-- The fan command of a code, if `FAN_SET` has one there. -/
def fanOfCode (c : Config) (n : Nat) : Option FanCommand := c.fanSet[n]?

/-- The `FAN` field as a fan command: with the default set codes 4 to 7 are unsupported (30_encoding.md R84, R89). -/
def fanOfField (c : Config) (f : BitVec 3) : Option FanCommand := fanOfCode c f.toNat

/-- A percentage as a level, up to `LIGHT_MAX` (30_encoding.md R85). -/
def levelOf (c : Config) (n : Nat) : Option LightCommand :=
  if h : n ≤ c.lightMax ∧ n < 101 then some (.level ⟨n, h.2⟩) else none

/-- `LIGHT8`, the 8-bit code of a light command (30_encoding.md R86; quantization is done by `quantize`). -/
def light8 : LightCommand → BitVec 8
  | .level q => BitVec.ofNat 8 q.val
  | .onOff false => 0x80
  | .onOff true => 0x81

/-- The light command of a `LIGHT8` code, if it is one of the 103 legal codes (30_encoding.md R86). -/
def lightOfCode (c : Config) (n : Nat) : Option LightCommand :=
  if n = 0x80 then some (.onOff false)
  else if n = 0x81 then some (.onOff true)
  else levelOf c n

/-- The constructor the fields `LM` and `LVAL` stand for, if they are legal (30_encoding.md R85). -/
def lightOfField (c : Config) (l : LightField) : Option LightCommand :=
  if l.lm then
    if l.lval = 0 then some (.onOff false) else if l.lval = 1 then some (.onOff true) else none
  else levelOf c l.lval.toNat

/-- `LIGHT_QUANT` applied to a level, once, before the value is stored or encoded (40_codec.md R125). -/
def quantize (c : Config) : LightCommand → LightCommand
  | .level p => .level (c.lightQuant p)
  | .onOff s => .onOff s

/-- `ADDR <= ADDR_MAX` and the Address `ADDR[3:0]` (30_encoding.md R82, R89). -/
def addressOfField (c : Config) (a : BitVec 8) : Option (BitVec 4) :=
  if a.toNat ≤ c.addrMax then some (a.setWidth 4) else none

/-- `power_ok` under the Hardware backend (42_handshake.md R172, 30_encoding.md R87). -/
def powerOk (c : Config) : Option (BitVec 3) → Bool
  | none => true
  | some p => decide (p.toNat ≤ c.pwrMax)

/-- `validate` for TXD, with the operands it admits (40_codec.md R122; 30_encoding.md R83: `FV` must be 1). -/
def validateTxd (c : Config) (addr : BitVec 8) (fan : Option (BitVec 3)) : Option (BitVec 4 × FanCommand) :=
  match addressOfField c addr, fan with
  | some a, some f => (fanOfField c f).map (fun x => (a, x))
  | _, _ => none

/-- `validate` and `resolve` for TXS (40_codec.md R122, R124): the address, and the fan and light with an absent one
replaced by its last-known value. `none` when `codec_valid` is false. -/
def resolveTxs (c : Config) (addr : BitVec 8) (fan : Option (BitVec 3)) (light : Option LightField)
    (lastFan : FanCommand) (lastLight : LightCommand) : Option (BitVec 4 × FanCommand × LightCommand) :=
  match addressOfField c addr with
  | none => none
  | some a =>
    let fanEff := match fan with
      | none => some lastFan
      | some f => fanOfField c f
    let lightEff := match light with
      | none => some lastLight
      | some l => (lightOfField c l).map (quantize c)
    match fanEff, lightEff with
    | some f, some l => some (a, f, l)
    | _, _ => none

end Sys2Proof.Machine
end

