-- ==== Sys2Proof/Machine/Codec.lean ====
section
/-! DEFINITION. The packet codec: the two encoders (40_codec.md R127, R130) and their inverse mapping (R134). -/

namespace Sys2Proof.Machine

/-- The address field, `ADDR_BITS` wide (30_encoding.md R90, R91). -/
def addrField (c : Config) (a : BitVec 4) : Bits := natBits c.addrBits a.toNat

/-- The fan field, `FAN_BITS` wide (30_encoding.md R90, R91). -/
def fanField (c : Config) (f : FanCommand) : Bits := natBits c.fanBits (fanCode c f).toNat

/-- The light field, `LIGHT_BITS` wide (30_encoding.md R91). -/
def lightField (c : Config) (l : LightCommand) : Bits := natBits c.lightBits (light8 l).toNat

/-- `encode_dumb(address, fan)` (40_codec.md R127; layout 30_encoding.md R90). -/
def encodeDumb (c : Config) (a : BitVec 4) (f : FanCommand) : Bits :=
  c.preDumb ++ addrField c a ++ fanField c f ++ wordBits (c.chkDumb a (fanCode c f))

/-- `encode_smart(address, fan, light)` (40_codec.md R130; layout 30_encoding.md R91). -/
def encodeSmart (c : Config) (a : BitVec 4) (f : FanCommand) (l : LightCommand) : Bits :=
  c.preSmart ++ addrField c a ++ fanField c f ++ lightField c l
    ++ wordBits (c.chkSmart a (fanCode c f) (light8 l))

/-- `decode_dumb(b)`: the address and the fan of a dumb packet (40_codec.md R134); `none` also where the fan field holds
no code of `FAN_SET`. -/
def decodeDumb (c : Config) (b : Bits) : Option (BitVec 4 × FanCommand) :=
  if b.length = c.lDumb then
    let p := c.preDumb.length
    (fanOfCode c (bitsNumber b (p + c.addrBits) c.fanBits)).map fun f =>
      (BitVec.ofNat 4 (bitsNumber b p c.addrBits), f)
  else none

/-- `decode_smart(b)`: the address, the fan and the light of a smart packet (40_codec.md R134); `none` also where the fan
field holds no code of `FAN_SET` or the light field no `LIGHT8` code. -/
def decodeSmart (c : Config) (b : Bits) : Option (BitVec 4 × FanCommand × LightCommand) :=
  if b.length = c.lSmart then
    let p := c.preSmart.length
    let q := p + c.addrBits + c.fanBits
    match fanOfCode c (bitsNumber b (p + c.addrBits) c.fanBits), lightOfCode c (bitsNumber b q c.lightBits) with
    | some f, some l => some (BitVec.ofNat 4 (bitsNumber b p c.addrBits), f, l)
    | _, _ => none
  else none

end Sys2Proof.Machine
end

