-- ==== Sys2Proof/Machine/Modulator.lean ====
section
/-! DEFINITION. The bit-timing modulator: `modulate` and `expand` (41_modulator.md), and the symbol under a position. -/

namespace Sys2Proof.Machine

/-- The pulses of a symbol: the timing table (30_encoding.md R92). -/
def symbolPulses (c : Config) : Symbol → List Pulse
  | .sync => c.sync
  | .sym0 => c.sym0
  | .sym1 => c.sym1

/-- The symbol of a bit (41_modulator.md R151, `sym`). -/
def bitSymbol (b : Bool) : Symbol := if b then .sym1 else .sym0

/-- `modulate(b)`: `SYNC`, then the symbol of each bit in order (41_modulator.md R151). -/
def modulate (c : Config) (b : Bits) : List Pulse :=
  c.sync ++ b.flatMap (fun x => symbolPulses c (bitSymbol x))

/-- `expand(P)`: each pulse's level, written as often as it lasts ticks (41_modulator.md R152). -/
def expand (p : List Pulse) : List Bool :=
  p.flatMap (fun q => List.replicate q.duration q.level)

/-- The duration of pulse `k`; 0 where there is none. -/
def pulseDuration (p : List Pulse) (k : Nat) : Nat :=
  match p[k]? with
  | some q => q.duration
  | none => 0

/-- The symbols a bit sequence is modulated as, in order (41_modulator.md R151). -/
def packetSymbols (b : Bits) : List Symbol := .sync :: b.map bitSymbol

/-- The symbol that pulse `k` of a list of symbols belongs to, and which of that symbol's pulses it is. -/
def locateSymbol (c : Config) : List Symbol → Nat → Option (Symbol × Nat)
  | [], _ => none
  | y :: ys, k =>
    if k < (symbolPulses c y).length then some (y, k)
    else locateSymbol c ys (k - (symbolPulses c y).length)

/-- Reads symbols back from pulses (41_modulator.md R154); the number bounds how many. DESIGN CHOICE, for a replacement
table in which one symbol begins the other (R154 promises an unambiguous parse for the default table only): `SYM0` is
tried first, a symbol once read is never given back, and `none` is answered where the rest then fails (assumption 22). -/
def parseSymbols (c : Config) : Nat → List Pulse → Option Bits
  | _, [] => some []
  | 0, _ :: _ => none
  | n + 1, p :: ps =>
    if c.sym0 <+: (p :: ps) then (parseSymbols c n ((p :: ps).drop c.sym0.length)).map (false :: ·)
    else if c.sym1 <+: (p :: ps) then (parseSymbols c n ((p :: ps).drop c.sym1.length)).map (true :: ·)
    else none

/-- The bits recovered from a pulse sequence: `SYNC` dropped, the rest read as symbols (41_modulator.md R154). -/
def demodulate (c : Config) (p : List Pulse) : Option Bits :=
  parseSymbols c p.length (p.drop c.sync.length)

/-- The real length of a number of ticks, in seconds (41_modulator.md R155). -/
def realTime (c : Config) (ticks : Nat) : ℝ := ticks * c.tUnit.seconds

end Sys2Proof.Machine
end

