-- ==== Sys2Proof/Machine/Defaults.lean ====
section
/-! DEFINITION. The configuration of the modelled instance: the default of every decided parameter (00_scope.md R8)
and the OPEN parameters as the opaque constants of Config.lean. -/

namespace Sys2Proof.Machine

/-- `CHK_DUMB` (40_codec.md R129). -/
def defaultChkDumb (a : BitVec 4) (f : BitVec 3) : BitVec 2 :=
  a.extractLsb' 2 2 ^^^ a.extractLsb' 0 2 ^^^ f.extractLsb' 0 2

/-- `CHK_SMART` (40_codec.md R132). -/
def defaultChkSmart (a : BitVec 4) (f : BitVec 3) (l : BitVec 8) : BitVec 4 :=
  a ^^^ (f.extractLsb' 0 2).setWidth 4 ^^^ l.extractLsb' 4 4 ^^^ l.extractLsb' 0 4

/-- The instance's parameters: the defaults of 00_scope.md R8, the OPEN ones opaque (assumptions 2, 3). -/
def cfg : Config where
  addrBits := 4
  addrMax := 15
  fanSet := [.off, .low, .medium, .high]
  fanBits := 2
  lightMax := 100
  lightBits := 8
  lightQuant p := p
  lDumb := 12
  lSmart := 22
  preDumb := [false, true, false, true]
  preSmart := [true, false, true, false]
  chkDumb := defaultChkDumb
  chkSmart := defaultChkSmart
  sync := [⟨true, 4⟩, ⟨false, 4⟩]
  sym0 := [⟨true, 1⟩, ⟨false, 2⟩]
  sym1 := [⟨true, 2⟩, ⟨false, 1⟩]
  readyTimeout := Config.openReadyTimeoutLess1 + 1
  pwrMax := 4
  pwrRegAddr := Config.openPwrRegAddr
  pwrCode := Config.openPwrCode
  fanDefault := .off
  lightDefault := .level 0
  tUnit := Config.openTUnit
  enPinSense := Config.openEnPinSense
  readyPinSense := Config.openReadyPinSense

end Sys2Proof.Machine
end

