-- ==== Sys2Proof/Machine/State.lean ====
section
/-! DEFINITION. The state of the sequencer, all of it, and the state after reset. -/

namespace Sys2Proof.Machine

/-- The handshake states (10_state.md R27, R28; 42_handshake.md R170). -/
inductive Fsm where
  | idle
  | poweringUp
  | awaitingReady
  | transmitting
  | poweringDown
deriving DecidableEq, Repr

/-- `BACKEND` (10_state.md R33). -/
inductive Backend where
  | unselected
  | hardware
  | dummy
deriving DecidableEq, Repr

/-- `RESULT` (10_state.md R32). -/
inductive Result where
  | none
  | ok
  | invalidCommand
  | hardwareTimeout
  | transmissionFailed
deriving DecidableEq, Repr

/-- The state. INVENTORY.md lists each field with the rule that names it. -/
structure State where
  /-- `FSM` (10_state.md R27, R28). -/
  fsm : Fsm
  /-- `PIDX`, the index in `modulate(PKT)` of the pulse being emitted (10_state.md R27, R29). -/
  pidx : Nat
  /-- `DCNT`, the ticks of that pulse still to be emitted (10_state.md R27, R29). -/
  dcnt : Nat
  /-- `TIMER`, the low samples of the ready line in this wait (10_state.md R30). -/
  timer : Nat
  /-- `EN`, the enable line (10_state.md R36). -/
  en : Bool
  /-- `TX`, the level being emitted (10_state.md R36). -/
  tx : Bool
  /-- `RESULT` (10_state.md R32). -/
  result : Result
  /-- `BACKEND` (10_state.md R33). -/
  backend : Backend
  /-- `WARN` (10_state.md R31). -/
  warn : Bool
  /-- `REJ` (10_state.md R31). -/
  rej : Bool
  /-- `CLOSED` (10_state.md R31). -/
  closed : Bool
  /-- `CLAIM` (10_state.md R31). -/
  claim : Bool
  /-- `LAST_FAN` (10_state.md R23). -/
  lastFan : FanCommand
  /-- `LAST_LIGHT` (10_state.md R23). -/
  lastLight : LightCommand
  /-- `PKT`, the packet being transmitted (10_state.md R24). -/
  pkt : Bits
  /-- `PWR_V` (10_state.md R25). -/
  pwrV : Bool
  /-- `PWR_L` (10_state.md R25). -/
  pwrL : BitVec 3
  /-- `PEND_SMART` (10_state.md R26). -/
  pendSmart : Bool
  /-- `PEND_FAN` (10_state.md R26). -/
  pendFan : FanCommand
  /-- `PEND_LIGHT` (10_state.md R26). -/
  pendLight : LightCommand
  /-- The model's own: the input ports at the coming ticks, the coming tick's first (assumption 1). -/
  env : List Inputs
  /-- The model's own: the number of ticks taken; only free values read it (assumption 1). -/
  tick : Nat
deriving DecidableEq, Repr

/-- The machine with parameters `c` right after reset (10_state.md R44, 70_reset_and_hazards.md R270). Nine registers have
no reset value in the spec; theirs here are the model's (assumption 5). -/
def State.resetWith (c : Config) : State where
  fsm := .idle
  pidx := 0
  dcnt := 0
  timer := 0
  en := false
  tx := false
  result := .none
  backend := .unselected
  warn := false
  rej := false
  closed := false
  claim := false
  lastFan := c.fanDefault
  lastLight := quantize c c.lightDefault
  pkt := List.replicate c.lDumb false
  pwrV := false
  pwrL := 0
  pendSmart := false
  pendFan := .off
  pendLight := .level 0
  env := []
  tick := 0

/-- The modelled instance right after reset. -/
def State.reset : State := State.resetWith cfg

/-- Why the machine stops. The sequencer never does: its step function is total (43_backend.md R215), its errors are
states it goes on from (60_exceptions.md R230, R243), so this type has no value. -/
inductive Fault
deriving DecidableEq, Repr

/-- Why the model answers no state. -/
inductive Refusal where
  /-- Raised by an arm of `exec` for an instruction without a meaning, by its mnemonic. Safe: nothing is claimed of it.
  Every instruction has its meaning, so nothing raises it now. -/
  | notModelled (mnemonic : String)
deriving DecidableEq, Repr

end Sys2Proof.Machine
end

