-- ==== Sys2Proof/Machine/Ops.lean ====
section
/-! DEFINITION. The named operations on the state: the input ports, each group of register writes the spec's rules make,
the ONE error entry (60_exceptions.md R231 to R234) and the way back to Idle beside it. -/

namespace Sys2Proof.Machine

/-! ### Inputs and time -/

/-- The input ports at the coming tick (20_memory.md R62): the first of `env`, or free values where `env` is empty. -/
def State.inputs (s : State) : Inputs := s.env.head?.getD (Config.freeInputs s.tick)

/-- The tick is over: its inputs are gone, the tick counter goes on. Done once a step, whatever the step does. -/
def advance (s : State) : State := { s with env := s.env.tail, tick := s.tick + 1 }

/-- The reset step: every register takes its reset value (70_reset_and_hazards.md R270). -/
def resetRegisters (c : Config) (s : State) : State := { State.resetWith c with env := s.env, tick := s.tick }

/-! ### Errors (60_exceptions.md) -/

/-- The four error kinds (60_exceptions.md R230). -/
inductive ErrorKind where
  | hardwareUnavailable
  | invalidCommand
  | hardwareTimeout
  | transmissionFailed
deriving DecidableEq, Repr

/-- The entry of an error (60_exceptions.md R231 to R234, R242): what is saved is the `RESULT` code, and control goes to
Idle or PoweringDown. `TransmissionFailed` forces `TX` to 0 in Transmitting only (R234; 42_handshake.md R175, R178). -/
def raise (k : ErrorKind) (s : State) : State :=
  match k with
  | .hardwareUnavailable => { s with backend := .dummy, warn := true, claim := false }
  | .invalidCommand => { s with result := .invalidCommand }
  | .hardwareTimeout => { s with result := .hardwareTimeout, fsm := .poweringDown }
  | .transmissionFailed =>
    { s with result := .transmissionFailed, fsm := .poweringDown,
             tx := if s.fsm = .transmitting then false else s.tx }

/-- The lines are released and the sequencer is back in Idle (42_handshake.md R180, first and last line). -/
def releaseLines (s : State) : State := { s with en := false, tx := false, fsm := .idle }

/-- The smart values become the last-known ones (42_handshake.md R180, 43_backend.md R218). -/
def commitLast (smart : Bool) (f : FanCommand) (l : LightCommand) (s : State) : State :=
  { s with lastFan := if smart then f else s.lastFan, lastLight := if smart then l else s.lastLight }

/-- The transmission in progress, or the dummy one, ended well (42_handshake.md R180, 43_backend.md R218). -/
def succeed (s : State) : State := { s with result := .ok }

/-- The return from a transmission and from every error taken in it: the PoweringDown step (42_handshake.md R180;
60_exceptions.md R243). -/
def returnToIdle (s : State) : State :=
  if s.result = .none then
    releaseLines (commitLast s.pendSmart s.pendFan s.pendLight (succeed s))
  else releaseLines s

/-! ### Rejection, selection, release -/

/-- `reject`: `REJ <- 1` and nothing else (43_backend.md R216). -/
def reject (s : State) : State := { s with rej := true }

/-- `Probe()`: whether the bus device and both lines can be had (20_memory.md R67). -/
def probe (s : State) : Bool := s.inputs.probeBus && s.inputs.probeIrq && s.inputs.probeSdn

/-- The Hardware backend is chosen and its handles are held (43_backend.md R211). -/
def claimHardware (s : State) : State := { s with backend := .hardware, claim := true }

/-- SELECT's own effect (43_backend.md R211, R213). -/
def selectBackend (s : State) : State :=
  if s.backend = .unselected then
    if probe s then claimHardware s else raise .hardwareUnavailable s
  else s

/-- CLOSE's own effect (43_backend.md R214). -/
def releaseHandles (s : State) : State := { s with claim := false, closed := true }

/-! ### Transmission -/

/-- `start` (42_handshake.md R173). Where no power level is supplied `PWR_L` takes a free value (assumption 6). -/
def beginTransmission (pkt : Bits) (smart : Bool) (f : FanCommand) (l : LightCommand) (power : Option (BitVec 3))
    (s : State) : State :=
  { s with pkt := pkt, pendSmart := smart, pendFan := f, pendLight := l, pwrV := power.isSome,
           pwrL := power.getD (Config.freePowerLevel s.tick), result := .none, fsm := .poweringUp }

/-- `dummy_transmit` (43_backend.md R218). -/
def dummyTransmit (smart : Bool) (f : FanCommand) (l : LightCommand) (s : State) : State :=
  commitLast smart f l (succeed s)

/-- What a valid operand set does under each backend (42_handshake.md R171, R172, R173, R181; 43_backend.md R218): the
power level is examined under Hardware only. -/
def transmit (c : Config) (pkt : Bits) (smart : Bool) (f : FanCommand) (l : LightCommand) (power : Option (BitVec 3))
    (s : State) : State :=
  if s.backend = .dummy then dummyTransmit smart f l s
  else if powerOk c power then beginTransmission pkt smart f l power s
  else raise .invalidCommand s

/-- The enable line is asserted (42_handshake.md R175). -/
def assertEnable (s : State) : State := { s with en := true }

/-- The wait for the ready line begins (42_handshake.md R175, last two lines). -/
def startWait (s : State) : State := { s with timer := 0, fsm := .awaitingReady }

/-- A low sample of the ready line is counted (42_handshake.md R176). -/
def countSample (s : State) : State := { s with timer := s.timer + 1 }

/-- The burst begins at the first pulse (42_handshake.md R176). -/
def startBurst (d : Nat) (s : State) : State := { s with pidx := 0, dcnt := d, fsm := .transmitting }

/-- `Emit(level)` (20_memory.md R65). -/
def emit (level : Bool) (s : State) : State := { s with tx := level }

/-- One tick of the pulse is done, more follow (42_handshake.md R178). -/
def countTick (s : State) : State := { s with dcnt := s.dcnt - 1 }

/-- The pulse is done, the next one lasts `d` ticks (42_handshake.md R178). -/
def nextPulse (d : Nat) (s : State) : State := { s with pidx := s.pidx + 1, dcnt := d }

/-- The last pulse is done (42_handshake.md R178). -/
def endBurst (s : State) : State := { s with pidx := s.pidx + 1, dcnt := 0, fsm := .poweringDown }

/-- The packet register holds a packet (10_state.md R24; 42_handshake.md R173). -/
def holdPacket (pkt : Bits) (s : State) : State := { s with pkt := pkt }

end Sys2Proof.Machine
end

