-- ==== Sys2Proof/Machine/Driver.lean ====
section
/-! DEFINITION. The transceiver handshake driver: the steps of the four busy states (42_handshake.md R175 to R180). -/

namespace Sys2Proof.Machine

/-- The PoweringUp step (42_handshake.md R175); the register write it issues is what the ports show (10_state.md R37). -/
def poweringUpStep (s : State) : State :=
  if s.pwrV && s.inputs.busErr then raise .transmissionFailed (assertEnable s)
  else startWait (assertEnable s)

/-- The AwaitingReady step (42_handshake.md R176): ready is sampled first, and wins. -/
def awaitingReadyStep (c : Config) (s : State) : State :=
  if s.inputs.readyIn then startBurst (pulseDuration (modulate c s.pkt) 0) s
  else if s.timer + 1 ≥ c.readyTimeout then raise .hardwareTimeout (countSample s)
  else countSample s

/-- How the position moves on after an emission (42_handshake.md R178). -/
def advancePulse (c : Config) (s : State) : State :=
  if s.dcnt - 1 > 0 then countTick s
  else if s.pidx + 1 < (modulate c s.pkt).length then
    nextPulse (pulseDuration (modulate c s.pkt) (s.pidx + 1)) s
  else endBurst s

/-- A Transmitting tick that has the given level to emit (42_handshake.md R178, R179): a bus failure wins. -/
def emitTick (c : Config) (level : Bool) (s : State) : State :=
  if s.inputs.busErr then raise .transmissionFailed s else advancePulse c (emit level s)

/-- The level of the pulse at the position, `P[PIDX]`; a free value outside the pulse sequence (assumption 7). -/
def currentLevel (c : Config) (s : State) : Bool :=
  match (modulate c s.pkt)[s.pidx]? with
  | some p => p.level
  | none => Config.freeLevel s.tick

/-- The Transmitting step (42_handshake.md R178). -/
def transmittingStep (c : Config) (s : State) : State := emitTick c (currentLevel c s) s

/-- The PoweringDown step (42_handshake.md R180). -/
def poweringDownStep (s : State) : State := returnToIdle s

/-- "perform the step of FSM" (43_backend.md R215); in Idle there is none. -/
def fsmStep (c : Config) (s : State) : State :=
  match s.fsm with
  | .idle => s
  | .poweringUp => poweringUpStep s
  | .awaitingReady => awaitingReadyStep c s
  | .transmitting => transmittingStep c s
  | .poweringDown => poweringDownStep s

/-- The symbol under the position, and which of its pulses it is at (41_modulator.md R156: computed from the position). -/
def symbolAt (c : Config) (s : State) : Option (Symbol × Nat) :=
  locateSymbol c (packetSymbols s.pkt) s.pidx

/-- The level that symbol `y` has at the pulse the position is at within its symbol. -/
def symbolLevel (c : Config) (y : Symbol) (s : State) : Bool :=
  match (symbolAt c s).bind (fun p => (symbolPulses c y)[p.2]?) with
  | some p => p.level
  | none => Config.freeLevel s.tick

end Sys2Proof.Machine
end

