-- ==== Sys2Proof/Machine/Command.lean ====
section
/-! DEFINITION. The command words: SELECT, TXD, TXS, CLOSE. A meaning is the sequencer's tick with the word on `cmd`
(43_backend.md R215, R216; assumption 10). -/

namespace Sys2Proof.Machine

/-- A command word that is not served: `REJ <- 1`, and a busy state's own step goes on (43_backend.md R216, R183). -/
def rejected (c : Config) (s : State) : State := fsmStep c (reject s)

/-- The dispatch of a command word with its acceptance tests in their order (43_backend.md R215): busy, closed, then the
operation. -/
def presented (c : Config) (accept : State → State) (s : State) : State :=
  if s.fsm ≠ .idle then rejected c s
  else if s.closed then reject s
  else accept s

/-- TXD's accepting step (42_handshake.md R171). -/
def acceptTxd (c : Config) (addr : BitVec 8) (fan : Option (BitVec 3)) (power : Option (BitVec 3)) (s : State) : State :=
  if s.backend = .unselected then reject s
  else match validateTxd c addr fan with
    | none => raise .invalidCommand s
    | some (a, f) => transmit c (encodeDumb c a f) false f (.level 0) power s

/-- TXS's accepting step (42_handshake.md R181). -/
def acceptTxs (c : Config) (addr : BitVec 8) (fan : Option (BitVec 3)) (light : Option LightField)
    (power : Option (BitVec 3)) (s : State) : State :=
  if s.backend = .unselected then reject s
  else match resolveTxs c addr fan light s.lastFan s.lastLight with
    | none => raise .invalidCommand s
    | some (a, f, l) => transmit c (encodeSmart c a f l) true f l power s

/-- SELECT's tick (43_backend.md R211, R215). -/
def selectTick (c : Config) (s : State) : State := presented c selectBackend s

/-- TXD's tick (42_handshake.md R171, 43_backend.md R215). -/
def txdTick (c : Config) (addr : BitVec 8) (fan : Option (BitVec 3)) (power : Option (BitVec 3)) (s : State) : State :=
  presented c (acceptTxd c addr fan power) s

/-- TXS's tick (42_handshake.md R181, 43_backend.md R215). -/
def txsTick (c : Config) (addr : BitVec 8) (fan : Option (BitVec 3)) (light : Option LightField)
    (power : Option (BitVec 3)) (s : State) : State :=
  presented c (acceptTxs c addr fan light power) s

/-- CLOSE's tick (43_backend.md R214, R215). -/
def closeTick (c : Config) (s : State) : State := presented c releaseHandles s

/-- SELECT (43_backend.md R211). -/
def execSelect (s : State) : Host.Outcome State Fault Refusal := .next (selectTick cfg s)

/-- TXD (42_handshake.md R171). -/
def execTxd (addr : BitVec 8) (fan : Option (BitVec 3)) (power : Option (BitVec 3)) (s : State) :
    Host.Outcome State Fault Refusal :=
  .next (txdTick cfg addr fan power s)

/-- TXS (42_handshake.md R181). -/
def execTxs (addr : BitVec 8) (fan : Option (BitVec 3)) (light : Option LightField) (power : Option (BitVec 3))
    (s : State) : Host.Outcome State Fault Refusal :=
  .next (txsTick cfg addr fan light power s)

/-- CLOSE (43_backend.md R214). -/
def execClose (s : State) : Host.Outcome State Fault Refusal := .next (closeTick cfg s)

end Sys2Proof.Machine
end

