-- ==== Sys2Proof/Machine/Packet.lean ====
section
/-! DEFINITION. The packet words: PKT_DUMB, PKT_SMART. A meaning is the sequencer's tick with that packet in `PKT`
(10_state.md R24, 42_handshake.md R173 to R180; assumption 8). -/

namespace Sys2Proof.Machine

/-- A tick of the driver on a packet: the packet is what `PKT` holds, and the step of `FSM` is taken. -/
def packetTick (c : Config) (pkt : Bits) (s : State) : State := fsmStep c (holdPacket pkt s)

/-- PKT_DUMB (40_codec.md R127). -/
def execPktDumb (a : BitVec 4) (f : FanCommand) (s : State) : Host.Outcome State Fault Refusal :=
  .next (packetTick cfg (encodeDumb cfg a f) s)

/-- PKT_SMART (40_codec.md R130). -/
def execPktSmart (a : BitVec 4) (f : FanCommand) (l : LightCommand) (s : State) : Host.Outcome State Fault Refusal :=
  .next (packetTick cfg (encodeSmart cfg a f l) s)

end Sys2Proof.Machine
end

