-- ==== Sys2Proof/Machine/Pulse.lean ====
section
/-! DEFINITION. The symbols of the timing table: SYNC, SYM0, SYM1. A meaning is the sequencer's tick with that symbol at
the modulator's output (41_modulator.md R151, 42_handshake.md R178; assumption 9). -/

namespace Sys2Proof.Machine

/-- A tick on a symbol: in Transmitting the symbol's level at the position is emitted; no other state looks at the
modulator's output (10_state.md R36, 20_memory.md R65). -/
def symbolTick (c : Config) (y : Symbol) (s : State) : State :=
  if s.fsm = .transmitting then emitTick c (symbolLevel c y s) s else fsmStep c s

/-- SYNC (41_modulator.md R151). -/
def execSync (s : State) : Host.Outcome State Fault Refusal := .next (symbolTick cfg .sync s)

/-- SYM0 (41_modulator.md R151). -/
def execSym0 (s : State) : Host.Outcome State Fault Refusal := .next (symbolTick cfg .sym0 s)

/-- SYM1 (41_modulator.md R151). -/
def execSym1 (s : State) : Host.Outcome State Fault Refusal := .next (symbolTick cfg .sym1 s)

end Sys2Proof.Machine
end

