-- ==== Sys2Proof/Machine/Dispatch.lean ====
section
/-! DEFINITION. One arm per instruction. -/

namespace Sys2Proof.Machine

def exec (i : Instr) (s : State) : Host.Outcome State Fault Refusal :=
  match i with
  | .select => Sys2Proof.Machine.execSelect s
  | .txd addr fan power => Sys2Proof.Machine.execTxd addr fan power s
  | .txs addr fan light power => Sys2Proof.Machine.execTxs addr fan light power s
  | .close => Sys2Proof.Machine.execClose s
  | .pktDumb addr fan => Sys2Proof.Machine.execPktDumb addr fan s
  | .pktSmart addr fan light => Sys2Proof.Machine.execPktSmart addr fan light s
  | .sync => Sys2Proof.Machine.execSync s
  | .sym0 => Sys2Proof.Machine.execSym0 s
  | .sym1 => Sys2Proof.Machine.execSym1 s

end Sys2Proof.Machine
end

