-- ==== Sys2Proof/Decode.lean ====
section
/-! DEFINITION. Decoding the three kinds of encoded word, total and rejecting by name; the encoder after it. -/

namespace Sys2Proof

/-- Why bits are no instruction. -/
inductive DecodeError where
  /-- A command word with `OP` 0 or 5 to 15 (30_encoding.md R81). -/
  | reservedOp
  /-- A bit sequence that is as long as no word of the table (30_encoding.md R94). -/
  | noSuchLength
  /-- A bit sequence as long as a packet, without its preamble (30_encoding.md R90, R91). -/
  | notAPacket
  /-- A packet whose check field is not the function of the others it must be (40_codec.md R135). -/
  | badCheck
  /-- A packet whose fan field is no code of `FAN_SET`, or whose light field is no `LIGHT8` code (30_encoding.md R84,
  R86). -/
  | illegalField
  /-- Levels that are no symbol of the timing table (30_encoding.md R92). -/
  | notASymbol
deriving DecidableEq, Repr

/-- What the decoder answers. -/
inductive Decoded where
  | ok (i : Instr)
  | rejected (e : DecodeError)
deriving DecidableEq, Repr

/-- The instruction, if there is one. -/
def Decoded.instr? : Decoded → Option Instr
  | .ok i => some i
  | .rejected _ => none

/-! ### The command word (30_encoding.md R80) -/

/-- The fields of a command word. -/
structure CommandFields where
  op : BitVec 4
  addr : BitVec 8
  fv : Bool
  fan : BitVec 3
  lv : Bool
  lm : Bool
  lval : BitVec 7
  pv : Bool
  pwr : BitVec 3
deriving DecidableEq, Repr

/-- The fields of a word, at the places of the table of 30_encoding.md R80. -/
def commandFields (w : CommandWord) : CommandFields where
  op := w.extractLsb' 28 4
  addr := w.extractLsb' 20 8
  fv := w.getLsbD 19
  fan := w.extractLsb' 16 3
  lv := w.getLsbD 15
  lm := w.getLsbD 14
  lval := w.extractLsb' 7 7
  pv := w.getLsbD 6
  pwr := w.extractLsb' 3 3

/-- A field under a valid bit (30_encoding.md R88: ignored where the bit is 0). -/
def underValid {α : Type} (v : Bool) (x : α) : Option α := if v then some x else none

/-- The command word's instruction: `OP` alone decides which (30_encoding.md R81). -/
def decodeFields (f : CommandFields) : Decoded :=
  if f.op = 1 then .ok .select
  else if f.op = 2 then .ok (.txd f.addr (underValid f.fv f.fan) (underValid f.pv f.pwr))
  else if f.op = 3 then
    .ok (.txs f.addr (underValid f.fv f.fan) (underValid f.lv ⟨f.lm, f.lval⟩) (underValid f.pv f.pwr))
  else if f.op = 4 then .ok .close
  else .rejected .reservedOp

/-- The decoder of a command word. -/
def decodeCommand (w : CommandWord) : Decoded := decodeFields (commandFields w)

/-! ### Packets and symbols -/

/-- The decoder of a packet: preamble and length tell which kind; the check field must be right (40_codec.md R134, R135). -/
def decodePacket (c : Config) (b : Bits) : Decoded :=
  if b.length = c.lDumb ∧ c.preDumb <+: b then
    match Machine.decodeDumb c b with
    | some (a, f) => if b = Machine.encodeDumb c a f then .ok (.pktDumb a f) else .rejected .badCheck
    | none => .rejected .illegalField
  else if b.length = c.lSmart ∧ c.preSmart <+: b then
    match Machine.decodeSmart c b with
    | some (a, f, l) => if b = Machine.encodeSmart c a f l then .ok (.pktSmart a f l) else .rejected .badCheck
    | none => .rejected .illegalField
  else .rejected .notAPacket

/-- The instruction of a symbol. -/
def symbolInstr : Symbol → Instr
  | .sync => .sync
  | .sym0 => .sym0
  | .sym1 => .sym1

/-- The levels of a symbol, one a tick (opcode_table.json rows `SYNC`, `SYM0`, `SYM1`; 41_modulator.md R152). -/
def symbolLevels (c : Config) (y : Symbol) : Bits := Machine.expand (Machine.symbolPulses c y)

/-- The decoder of a symbol from its levels. -/
def decodeSymbol (c : Config) (b : Bits) : Decoded :=
  if b = symbolLevels c .sync then .ok .sync
  else if b = symbolLevels c .sym0 then .ok .sym0
  else if b = symbolLevels c .sym1 then .ok .sym1
  else .rejected .notASymbol

/-- The decoder of any bit sequence, first bit the leftmost of the row's pattern: a command word has 32 bits, a packet
12 or 22, a symbol 8 or 3. -/
def decode (b : Bits) : Decoded :=
  if b.length = 32 then decodeCommand (BitVec.ofNat 32 (Machine.bitsVal b))
  else if b.length = 12 ∨ b.length = 22 then decodePacket Machine.cfg b
  else if b.length = 8 ∨ b.length = 3 then decodeSymbol Machine.cfg b
  else .rejected .noSuchLength

/-! ### The encoder -/

/-- The word with the given fields; bits 2:0 are 0 (30_encoding.md R80, R95). -/
def commandWord (f : CommandFields) : CommandWord :=
  f.op ++ f.addr ++ BitVec.ofBool f.fv ++ f.fan ++ BitVec.ofBool f.lv ++ BitVec.ofBool f.lm ++ f.lval
    ++ BitVec.ofBool f.pv ++ f.pwr ++ (0 : BitVec 3)

/-- The command word of an operation and its operands; unused bits are 0 (30_encoding.md R95). -/
def encodeCommand (op : BitVec 4) (addr : BitVec 8) (fan : Option (BitVec 3)) (light : Option LightField)
    (power : Option (BitVec 3)) : CommandWord :=
  commandWord
    { op := op, addr := addr, fv := fan.isSome, fan := fan.getD 0, lv := light.isSome
      lm := (light.getD ⟨false, 0⟩).lm, lval := (light.getD ⟨false, 0⟩).lval
      pv := power.isSome, pwr := power.getD 0 }

/-- The bits of an instruction, leftmost of its row's pattern first. -/
def encode : Instr → Bits
  | .select => Machine.wordBits (encodeCommand 1 0 none none none)
  | .txd addr fan power => Machine.wordBits (encodeCommand 2 addr fan none power)
  | .txs addr fan light power => Machine.wordBits (encodeCommand 3 addr fan light power)
  | .close => Machine.wordBits (encodeCommand 4 0 none none none)
  | .pktDumb a f => Machine.encodeDumb Machine.cfg a f
  | .pktSmart a f l => Machine.encodeSmart Machine.cfg a f l
  | .sync => symbolLevels Machine.cfg .sync
  | .sym0 => symbolLevels Machine.cfg .sym0
  | .sym1 => symbolLevels Machine.cfg .sym1

/-! ### The table's words -/

/-- The lengths of a word the table may mean by `nbits` bits, longest first: a row's bits in whole bytes, or exactly. -/
def tableLengths (nbits : Nat) : List Nat :=
  [32, 22, 12, 8, 3].filter (fun n => n = nbits || (n + 7) / 8 * 8 = nbits)

/-- The first instruction the decoder reads from `w` laid out in one of the given lengths. -/
def decodeLengths (w : Nat) : List Nat → Option Instr
  | [] => none
  | n :: ns =>
    match (if w < 2 ^ n then (decode (Machine.natBits n w)).instr? else none) with
    | some i => some i
    | none => decodeLengths w ns

/-- The instruction of a table row's word (assumption 12): bit 0 of `w` is the rightmost character of the row's pattern. -/
def decodeTableWord (nbits w : Nat) : Option Instr := decodeLengths w (tableLengths nbits)

end Sys2Proof
end

