-- ==== Sys2Proof/Machine/Fetch.lean ====
section
/-! DEFINITION. Which word a tick is about, and how a word is put where the next tick finds it. -/

namespace Sys2Proof.Machine

/-- The word of the coming tick, with parameters `c`: the command word if one is presented (43_backend.md R215); else, in
a busy state, the symbol under the position while Transmitting and the packet in `PKT` in the other three (assumptions 8,
9). `none` where there is no word, or it decodes to no instruction. -/
def fetch (c : Config) (s : State) : Option Instr :=
  if s.inputs.cmdValid then (decodeCommand s.inputs.cmd).instr?
  else match s.fsm with
    | .idle => none
    | .transmitting => (symbolAt c s).map (fun p => symbolInstr p.1)
    | .poweringUp => (decodePacket c s.pkt).instr?
    | .awaitingReady => (decodePacket c s.pkt).instr?
    | .poweringDown => (decodePacket c s.pkt).instr?

/-- The tick when there is no instruction: a reserved command word is rejected (43_backend.md R216), and the step of
`FSM` is taken (R215). -/
def wordlessTick (c : Config) (s : State) : State :=
  if s.inputs.cmdValid then rejected c s else fsmStep c s

/-- The coming tick's inputs are replaced by the given ones. -/
def setInputs (x : Inputs) (s : State) : State := { s with env := x :: s.env.tail }

/-- A command word is presented at the coming tick, in Idle. -/
def placeCommand (w : CommandWord) (s : State) : State :=
  setInputs { Inputs.quiet with cmdValid := true, cmd := w } { s with fsm := .idle }

/-- A packet waits for the ready line, which is high at the coming tick. -/
def placePacket (b : Bits) (s : State) : State :=
  setInputs { Inputs.quiet with readyIn := true }
    { s with fsm := .awaitingReady, backend := .hardware, claim := true, en := true, pkt := b,
             pendSmart := decide (b.length = cfg.lSmart) }

/-- A burst is at the first tick of a symbol: of `SYNC`, or of the first bit's symbol in a packet of such bits. -/
def placeSymbol (y : Symbol) (s : State) : State :=
  let k := if y = .sync then 0 else cfg.sync.length
  setInputs Inputs.quiet
    { s with fsm := .transmitting, backend := .hardware, claim := true, en := true, pidx := k,
             dcnt := pulseDuration (symbolPulses cfg y) 0, pendSmart := false,
             pkt := List.replicate cfg.lDumb (decide (y = .sym1)) }

/-- A table row's word is put where the coming tick finds it (assumption 11). -/
def placeWord (nbits w : Nat) (s : State) : State :=
  match decodeTableWord nbits w with
  | some .sync => placeSymbol .sync s
  | some .sym0 => placeSymbol .sym0 s
  | some .sym1 => placeSymbol .sym1 s
  | some (.pktDumb a f) => placePacket (encodeDumb cfg a f) s
  | some (.pktSmart a f l) => placePacket (encodeSmart cfg a f l) s
  | _ => placeCommand (BitVec.ofNat 32 w) s

end Sys2Proof.Machine
end

