-- ==== Sys2Proof/Machine/Step.lean ====
section
/-! DEFINITION. One tick of the sequencer (10_state.md R20, 43_backend.md R215). -/

namespace Sys2Proof.Machine

/-- The tick is over, where there is a next state. -/
def endTick : Host.Outcome State Fault Refusal → Host.Outcome State Fault Refusal
  | .next s => .next (advance s)
  | .fault r => .fault r
  | .refused r => .refused r

/-- One tick: reset wins; else the word of the tick is executed; else what a tick without a word does. -/
def step (s : State) : Host.Outcome State Fault Refusal :=
  if s.inputs.rst then endTick (.next (resetRegisters cfg s))
  else match fetch cfg s with
    | some i => endTick (exec i s)
    | none => endTick (.next (wordlessTick cfg s))

/-- The state with a table row's word where the next step fetches it (assumption 11). -/
def State.withFetchWord (s : State) (nbits w : Nat) : State := placeWord nbits w s

end Sys2Proof.Machine
end

