-- ==== Sys2Proof/Machine/Assembly.lean ====
section
/-! DEFINITION. The assembly notation of the command words (30_encoding.md R95) and the command lines that expand to them
(R96), as an abstract syntax with an assembler and a printer. -/

namespace Sys2Proof.Machine

/-- `<fan>`: `-`, a name, or a raw code `#n` (30_encoding.md R95). -/
inductive FanArg where
  | absent
  | named (f : FanCommand)
  | raw (n : Nat)
deriving DecidableEq, Repr

/-- `<light>`: `-`, a percentage, `on` or `off`, or a raw `#m:v` (30_encoding.md R95). -/
inductive LightArg where
  | absent
  | percent (n : Nat)
  | onOff (on : Bool)
  | raw (m v : Nat)
deriving DecidableEq, Repr

/-- One line of the notation (30_encoding.md R95). -/
inductive AsmLine where
  | select
  | txd (addr : Nat) (fan : FanArg) (power : Option Nat)
  | txs (addr : Nat) (fan : FanArg) (light : LightArg) (power : Option Nat)
  | close
deriving DecidableEq, Repr

/-- A number as a field of `n` bits, if it fits. -/
def fieldOf (n v : Nat) : Option (BitVec n) := if v < 2 ^ n then some (BitVec.ofNat n v) else none

/-- The fan operand. -/
def assembleFan : FanArg → Option (Option (BitVec 3))
  | .absent => some none
  | .named f => some (some (fanCode cfg f))
  | .raw n => (fieldOf 3 n).map some

/-- The light operand: a percentage is `LM` 0, `on` and `off` are `LM` 1 (30_encoding.md R85, R95). -/
def assembleLight : LightArg → Option (Option LightField)
  | .absent => some none
  | .percent n => (fieldOf 7 n).map (fun v => some ⟨false, v⟩)
  | .onOff b => some (some ⟨true, if b then 1 else 0⟩)
  | .raw m v => if m ≤ 1 then (fieldOf 7 v).map (fun x => some ⟨decide (m = 1), x⟩) else none

/-- The power operand. -/
def assemblePower : Option Nat → Option (Option (BitVec 3))
  | none => some none
  | some n => (fieldOf 3 n).map some

/-- The instruction of a line; `none` where an operand does not fit its field. -/
def assemble : AsmLine → Option Instr
  | .select => some .select
  | .close => some .close
  | .txd addr fan power =>
    match fieldOf 8 addr, assembleFan fan, assemblePower power with
    | some a, some f, some p => some (.txd a f p)
    | _, _, _ => none
  | .txs addr fan light power =>
    match fieldOf 8 addr, assembleFan fan, assembleLight light, assemblePower power with
    | some a, some f, some l, some p => some (.txs a f l p)
    | _, _, _, _ => none

/-- The command word of an instruction that is one. -/
def instrWord : Instr → Option CommandWord
  | .select => some (encodeCommand 1 0 none none none)
  | .txd addr fan power => some (encodeCommand 2 addr fan none power)
  | .txs addr fan light power => some (encodeCommand 3 addr fan light power)
  | .close => some (encodeCommand 4 0 none none none)
  | .pktDumb _ _ => none
  | .pktSmart _ _ _ => none
  | .sync => none
  | .sym0 => none
  | .sym1 => none

/-- The command word of a line. -/
def assembleWord (l : AsmLine) : Option CommandWord := (assemble l).bind instrWord

/-- The name of a fan command; one that the notation has no name for is its raw code (30_encoding.md R95). -/
def fanName : FanCommand → String
  | .off => "off"
  | .low => "low"
  | .medium => "medium"
  | .high => "high"
  | .further k => "#" ++ toString (fanCode cfg (.further k)).toNat

/-- A fan operand as text. -/
def fanText : FanArg → String
  | .absent => "-"
  | .named f => fanName f
  | .raw n => "#" ++ toString n

/-- A light operand as text. -/
def lightText : LightArg → String
  | .absent => "-"
  | .percent n => toString n
  | .onOff true => "on"
  | .onOff false => "off"
  | .raw m v => "#" ++ toString m ++ ":" ++ toString v

/-- A power operand as text. -/
def powerText : Option Nat → String
  | none => ""
  | some n => ", pwr=" ++ toString n

/-- A line as text (30_encoding.md R95). -/
def asmText : AsmLine → String
  | .select => "select"
  | .txd addr fan power => "txd " ++ toString addr ++ ", " ++ fanText fan ++ powerText power
  | .txs addr fan light power =>
    "txs " ++ toString addr ++ ", " ++ fanText fan ++ ", " ++ lightText light ++ powerText power
  | .close => "close"

/-- `fanrf dumb ... --address=A [--power=W] F` (30_encoding.md R96). -/
def cliDumb (addr : Nat) (fan : FanCommand) (power : Option Nat) : List AsmLine :=
  [.select, .txd addr (.named fan) power, .close]

/-- `fanrf smart ... --address=A [--power=W] F L` (30_encoding.md R96): both values are always supplied. -/
def cliSmart (addr : Nat) (fan : FanCommand) (percent : Nat) (power : Option Nat) : List AsmLine :=
  [.select, .txs addr (.named fan) (.percent percent) power, .close]

end Sys2Proof.Machine
end

