-- ==== Sys2Proof/Machine/Configured.lean ====
section
/-! DEFINITION. The machine with any parameters (00_scope.md R8: a model takes them as one configuration record, and a
replacement may stand for each default). `exec` and `step` are this machine with the parameters `cfg`. -/

namespace Sys2Proof.Machine

/-- The tick on a word. -/
def wordTick (c : Config) (i : Instr) (s : State) : State :=
  match i with
  | .select => selectTick c s
  | .txd addr fan power => txdTick c addr fan power s
  | .txs addr fan light power => txsTick c addr fan light power s
  | .close => closeTick c s
  | .pktDumb addr fan => packetTick c (encodeDumb c addr fan) s
  | .pktSmart addr fan light => packetTick c (encodeSmart c addr fan light) s
  | .sync => symbolTick c .sync s
  | .sym0 => symbolTick c .sym0 s
  | .sym1 => symbolTick c .sym1 s

/-- One tick (43_backend.md R215: every state has exactly one next state). -/
def stepWith (c : Config) (s : State) : State :=
  advance (
    if s.inputs.rst then resetRegisters c s
    else match fetch c s with
      | some i => wordTick c i s
      | none => wordlessTick c s)

end Sys2Proof.Machine
end

