-- ==== Sys2Proof/Machine/Flags.lean ====
section
/-! DEFINITION. What the outside reads: flags, status words and ports that are functions of the state (10_state.md R31 to
R38), and the modes (60_exceptions.md R245). -/

namespace Sys2Proof.Machine

/-- The 3-bit code of `FSM` (10_state.md R28). -/
def fsmCode : Fsm → BitVec 3
  | .idle => 0
  | .poweringUp => 1
  | .awaitingReady => 2
  | .transmitting => 3
  | .poweringDown => 4

/-- The 3-bit code of `RESULT` (10_state.md R32). -/
def resultCode : Result → BitVec 3
  | .none => 0
  | .ok => 1
  | .invalidCommand => 2
  | .hardwareTimeout => 3
  | .transmissionFailed => 4

/-- The 2-bit code of `BACKEND` (10_state.md R33). -/
def backendCode : Backend → BitVec 2
  | .unselected => 0
  | .hardware => 1
  | .dummy => 2

/-- `BUSY` (10_state.md R31). -/
def busy (s : State) : Bool := decide (s.fsm ≠ .idle)

/-- `STATUS` (10_state.md R34). -/
def status (s : State) : BitVec 16 :=
  (0 : BitVec 3) ++ fsmCode s.fsm ++ BitVec.ofBool s.claim ++ BitVec.ofBool s.closed ++ BitVec.ofBool s.rej
    ++ BitVec.ofBool s.warn ++ backendCode s.backend ++ BitVec.ofBool (busy s) ++ resultCode s.result

/-- `LASTV` (10_state.md R35): the layout has two bits for the fan code (assumption 4). -/
def lastv (c : Config) (s : State) : BitVec 10 := (fanCode c s.lastFan).extractLsb' 0 2 ++ light8 s.lastLight

/-- `FAIL` (10_state.md R38, 60_exceptions.md R238). -/
def fail (s : State) : Bool :=
  match s.result with
  | .none => false
  | .ok => false
  | .invalidCommand => true
  | .hardwareTimeout => true
  | .transmissionFailed => true

/-- One write of a transceiver register (20_memory.md R64). -/
structure BusWrite where
  addr : BitVec 8
  data : BitVec 8
deriving DecidableEq, Repr

/-- The write the ports show at the coming tick, if any (10_state.md R37, 42_handshake.md R175). -/
def busWrite (c : Config) (s : State) : Option BusWrite :=
  if s.fsm = .poweringUp ∧ s.pwrV = true then some ⟨c.pwrRegAddr, c.pwrCode s.pwrL⟩ else none

/-- `bus_wr_valid` (10_state.md R37). -/
def busWrValid (c : Config) (s : State) : Bool := (busWrite c s).isSome

/-- `bus_wr_addr` (10_state.md R37). -/
def busWrAddr (c : Config) (s : State) : BitVec 8 :=
  match busWrite c s with
  | some w => w.addr
  | none => 0

/-- `bus_wr_data` (10_state.md R37). -/
def busWrData (c : Config) (s : State) : BitVec 8 :=
  match busWrite c s with
  | some w => w.data
  | none => 0

/-- The modes (60_exceptions.md R245). -/
inductive Mode where
  | unselected
  | hardware
  | dummy
  | closed
deriving DecidableEq, Repr

/-- The mode of a state (60_exceptions.md R245). -/
def mode (s : State) : Mode :=
  if s.closed then .closed
  else match s.backend with
    | .unselected => .unselected
    | .hardware => .hardware
    | .dummy => .dummy

/-- A run is finished (43_backend.md R220). -/
def finished (s : State) : Bool := s.closed

/-! ### The pins (43_backend.md R219; 00_scope.md R8 `EN_PIN_SENSE`, `READY_PIN_SENSE`) -/

/-- What the sequencer does to a pin or a bus: it drives a value, or it has released it. -/
inductive Line (α : Type) where
  | released
  | driven (x : α)
deriving DecidableEq, Repr

/-- The sequencer drives while it holds the handles, and only then (43_backend.md R219). -/
def drive {α : Type} (s : State) (x : α) : Line α := if s.claim then .driven x else .released

/-- The electrical level (`true` is high) of a logical value; also the logical value of a level. -/
def pinLevel (sense : PinSense) (x : Bool) : Bool :=
  match sense with
  | .activeHigh => x
  | .activeLow => !x

/-- The enable pin, as an electrical level. -/
def enPin (c : Config) (s : State) : Line Bool := drive s (pinLevel c.enPinSense s.en)

/-- The line that carries the waveform: the logical level `TX` (20_memory.md R65; the spec gives it no sense). -/
def txPin (s : State) : Line Bool := drive s s.tx

/-- The bus: the register write of the coming tick, if any. -/
def busPins (c : Config) (s : State) : Line (Option BusWrite) := drive s (busWrite c s)

/-- `ready_in` from the electrical level of the ready pin. -/
def readyOfPin (c : Config) (pin : Bool) : Bool := pinLevel c.readyPinSense pin

end Sys2Proof.Machine
end

