-- ==== Sys2Proof/Safety.lean ====
section
/-! DEFINITION. What a good state and a run are, in the terms the statements use. -/

namespace Sys2Proof.Safety

open Sys2Proof.Machine

/-- The invariants of 10_state.md R43, (a) to (g). -/
structure SafeState (s : State) : Prop where
  idle_safe : s.fsm = .idle → s.en = false ∧ s.tx = false
  not_hardware_quiet : s.backend ≠ .hardware → s.fsm = .idle ∧ s.en = false ∧ s.tx = false ∧ s.claim = false
  claim_iff : s.claim = true ↔ s.backend = .hardware ∧ s.closed = false
  warn_iff : s.warn = true ↔ s.backend = .dummy
  en_iff : s.en = true ↔ s.fsm = .awaitingReady ∨ s.fsm = .transmitting ∨ s.fsm = .poweringDown
  tx_only : s.tx = true → s.fsm = .transmitting ∨ s.fsm = .poweringDown
  closed_idle : s.closed = true → s.fsm = .idle

/-- `PKT` holds the packet of the pending values: dumb, or smart with the pending fan and light (10_state.md R24, R26;
42_handshake.md R171, R181, R173). -/
def PacketPending (s : State) : Prop :=
  if s.pendSmart then ∃ a, s.pkt = encodeSmart cfg a s.pendFan s.pendLight
  else ∃ a, s.pkt = encodeDumb cfg a s.pendFan

/-- The position is on a pulse of the packet, with 1 to `duration` ticks of it still to be emitted (10_state.md R27, R29;
42_handshake.md R178). -/
def OnPulse (c : Config) (s : State) : Prop :=
  s.pidx < (modulate c s.pkt).length ∧ 1 ≤ s.dcnt ∧ s.dcnt ≤ pulseDuration (modulate c s.pkt) s.pidx

/-- `LAST_FAN` holds a member of `FAN_SET`, and so does `PEND_FAN` in a busy state (10_state.md R23, R26). -/
structure FansInSet (s : State) : Prop where
  last : s.lastFan ∈ cfg.fanSet
  pending : s.fsm ≠ .idle → s.pendFan ∈ cfg.fanSet

/-- The ranges of the transmission registers in a busy state (10_state.md R24, R27, R29, R30, R32). -/
structure InFlight (s : State) : Prop where
  packet : s.fsm ≠ .idle → PacketPending s
  position : s.fsm = .transmitting → OnPulse cfg s
  waiting : s.fsm = .awaitingReady → s.timer < cfg.readyTimeout
  unsettled : s.fsm = .poweringUp ∨ s.fsm = .awaitingReady ∨ s.fsm = .transmitting → s.result = .none
  leaving : s.fsm = .poweringDown →
    s.result = .none ∨ s.result = .hardwareTimeout ∨ s.result = .transmissionFailed

/-- `k` steps of the machine. -/
def run (k : Nat) (s : State) : Host.Outcome State Fault Refusal := Sys2Proof.core.run k s

/-- The input ports `k` ticks ahead of the coming one. -/
def inputsAt (s : State) (k : Nat) : Inputs := s.env[k]?.getD (Config.freeInputs (s.tick + k))

/-- The waveform of a packet, one level a tick (41_modulator.md R152). -/
def waveform (b : Bits) : List Bool := expand (modulate cfg b)

/-- A Transmitting tick whose emission succeeded, in the words of 42_handshake.md R178: the level is on the line and the
position moves on. -/
def afterEmission (level : Bool) (s : State) : State :=
  if s.dcnt - 1 > 0 then { s with tx := level, dcnt := s.dcnt - 1 }
  else if s.pidx + 1 < (modulate cfg s.pkt).length then
    { s with tx := level, pidx := s.pidx + 1, dcnt := pulseDuration (modulate cfg s.pkt) (s.pidx + 1) }
  else { s with tx := level, pidx := s.pidx + 1, dcnt := 0, fsm := .poweringDown }

/-- The dumb packet's bits in the layout of 30_encoding.md R90, with the check field of 40_codec.md R129. -/
def dumbLayout (a : BitVec 4) (f : BitVec 3) : Bits :=
  [false, true, false, true]
    ++ [a.getLsbD 3, a.getLsbD 2, a.getLsbD 1, a.getLsbD 0]
    ++ [f.getLsbD 1, f.getLsbD 0]
    ++ [(a.getLsbD 3 ^^ a.getLsbD 1) ^^ f.getLsbD 1, (a.getLsbD 2 ^^ a.getLsbD 0) ^^ f.getLsbD 0]

/-- The smart packet's bits in the layout of 30_encoding.md R91, with the check field of 40_codec.md R132. -/
def smartLayout (a : BitVec 4) (f : BitVec 3) (l : BitVec 8) : Bits :=
  [true, false, true, false]
    ++ [a.getLsbD 3, a.getLsbD 2, a.getLsbD 1, a.getLsbD 0]
    ++ [f.getLsbD 1, f.getLsbD 0]
    ++ [l.getLsbD 7, l.getLsbD 6, l.getLsbD 5, l.getLsbD 4, l.getLsbD 3, l.getLsbD 2, l.getLsbD 1, l.getLsbD 0]
    ++ [(a.getLsbD 3 ^^ l.getLsbD 7) ^^ l.getLsbD 3, (a.getLsbD 2 ^^ l.getLsbD 6) ^^ l.getLsbD 2,
        ((a.getLsbD 1 ^^ f.getLsbD 1) ^^ l.getLsbD 5) ^^ l.getLsbD 1,
        ((a.getLsbD 0 ^^ f.getLsbD 0) ^^ l.getLsbD 4) ^^ l.getLsbD 0]

/-- The fan command of a code, as 30_encoding.md R84 lists them. -/
def fanNamed : Nat → Option FanCommand
  | 0 => some .off
  | 1 => some .low
  | 2 => some .medium
  | 3 => some .high
  | _ => none

/-- The fan a TXS supplies or carries forward (40_codec.md R124); `none` where it is unsupported. -/
def smartFan (fan : Option (BitVec 3)) (s : State) : Option FanCommand :=
  match fan with
  | none => some s.lastFan
  | some f => fanNamed f.toNat

/-- The light a TXS supplies or carries forward, with the identity quantizer (40_codec.md R124, R125); `none` where it
is illegal (30_encoding.md R85). -/
def smartLight (light : Option LightField) (s : State) : Option LightCommand :=
  match light with
  | none => some s.lastLight
  | some l =>
    if l.lm then
      (if l.lval.toNat ≤ 1 then some (.onOff (decide (l.lval.toNat = 1))) else none)
    else if h : l.lval.toNat < 101 then some (.level ⟨l.lval.toNat, h⟩) else none

/-- The coming tick presents a valid TXD or TXS that the Hardware backend accepts in Idle (42_handshake.md R170, first
row; R172). -/
def StartsTransmission (s : State) : Prop :=
  s.inputs.cmdValid = true ∧ s.closed = false ∧ s.backend = .hardware ∧
    match decodeCommand s.inputs.cmd with
    | .ok (.txd addr fan power) =>
      addr.toNat ≤ 15 ∧ (∃ f, fan = some f ∧ f.toNat ≤ 3) ∧ ∀ p, power = some p → p.toNat ≤ 4
    | .ok (.txs addr fan light power) =>
      addr.toNat ≤ 15 ∧ (smartFan fan s).isSome = true ∧ (smartLight light s).isSome = true ∧
        ∀ p, power = some p → p.toNat ≤ 4
    | _ => False

/-- The dispatch of one tick in the words of 43_backend.md R215, with the Transmitting step on `modulate(PKT)`, for any
parameters. -/
def dispatchTick (c : Config) (s : State) : State :=
  if s.inputs.rst then resetRegisters c s
  else if s.fsm ≠ .idle then
    fsmStep c (if s.inputs.cmdValid then reject s else s)
  else if s.inputs.cmdValid = false then s
  else if s.closed then reject s
  else match decodeCommand s.inputs.cmd with
    | .ok .select => selectBackend s
    | .ok .close => releaseHandles s
    | .ok (.txd addr fan power) => acceptTxd c addr fan power s
    | .ok (.txs addr fan light power) => acceptTxs c addr fan light power s
    | _ => reject s

end Sys2Proof.Safety
end

