-- ==== Sys2Proof/WellFormed.lean ====
section
/-! DEFINITION. Well-formedness: the constraints on a configuration (00_scope.md R8, 70_reset_and_hazards.md R287,
93_implementation_defined.md U11) and on an instruction. -/

namespace Sys2Proof

namespace Config

/-- Every duration of the timing table is at least 1 (41_modulator.md R157). -/
def durationsPositive (c : Config) : Bool :=
  (c.sync ++ c.sym0 ++ c.sym1).all (fun p => decide (1 ≤ p.duration))

/-- `SYM0` and `SYM1` are non-empty and different (41_modulator.md R157). -/
def symbolsDistinct (c : Config) : Bool :=
  decide (c.sym0 ≠ []) && decide (c.sym1 ≠ []) && decide (c.sym0 ≠ c.sym1)

/-- `READY_TIMEOUT >= 1` (00_scope.md R8). -/
def timeoutPositive (c : Config) : Bool := decide (1 ≤ c.readyTimeout)

/-- The values that the source fixes: 4-bit addresses up to 15, percentages up to 100 (00_scope.md R8, status Source). -/
def sourceValues (c : Config) : Bool :=
  decide (c.addrBits = 4) && decide (c.addrMax = 2 ^ c.addrBits - 1) && decide (c.lightMax = 100)

/-- `FAN_SET` has no member twice and at least the four named ones, in increasing intensity; `FAN_BITS` and the 3-bit
`FAN` field have room for its codes (00_scope.md R8, 30_encoding.md R80); `FAN_DEFAULT` is a member. -/
def fansFit (c : Config) : Bool :=
  decide c.fanSet.Nodup && [FanCommand.off, .low, .medium, .high].isSublist c.fanSet
    && decide (c.fanSet.length ≤ 2 ^ c.fanBits) && decide (c.fanSet.length ≤ 8) && decide (c.fanDefault ∈ c.fanSet)

/-- The light field has room for the `LIGHT8` codes, which go up to 0x81 (30_encoding.md R86; assumption 4). -/
def lightFits (c : Config) : Bool := decide (8 ≤ c.lightBits)

/-- The lengths differ, and each is the length of its layout (30_encoding.md R90, R91). -/
def lengthsFit (c : Config) : Bool :=
  decide (c.lDumb ≠ c.lSmart) && decide (c.lDumb = c.preDumb.length + c.addrBits + c.fanBits + 2)
    && decide (c.lSmart = c.preSmart.length + c.addrBits + c.fanBits + c.lightBits + 4)

/-- The preambles differ (00_scope.md R8). -/
def preamblesDiffer (c : Config) : Bool := decide (c.preDumb ≠ c.preSmart)

/-- `LIGHT_QUANT` is idempotent and leaves 75 unchanged (40_codec.md R126). -/
def quantizerFits (c : Config) : Bool :=
  decide (∀ p : Fin 101, c.lightQuant (c.lightQuant p) = c.lightQuant p) && decide (c.lightQuant 75 = 75)

/-- `PWR_MAX` is 0 to 7 (00_scope.md R8). -/
def powerMaxFits (c : Config) : Bool := decide (c.pwrMax ≤ 7)

/-- The configurations the spec's rules are stated for; every other is to be refused (70_reset_and_hazards.md R287).
`T_UNIT > 0` is in the type `TickLength`. -/
def conforming (c : Config) : Bool :=
  c.durationsPositive && c.symbolsDistinct && c.timeoutPositive && c.sourceValues && c.fansFit && c.lightFits
    && c.lengthsFit && c.preamblesDiffer && c.quantizerFits && c.powerMaxFits

end Config

/-- An instruction's operands fit its encoding: the fan of a packet is a member of `FAN_SET` (40_codec.md R127, R130). The
other operand types are exactly as wide as their fields; whether the operands of a command word are LEGAL is the machine's
question (30_encoding.md R93), not this one's. -/
def Instr.wfWith (c : Config) : Instr → Bool
  | .select => true
  | .txd _ _ _ => true
  | .txs _ _ _ _ => true
  | .close => true
  | .pktDumb _ fan => decide (fan ∈ c.fanSet)
  | .pktSmart _ fan _ => decide (fan ∈ c.fanSet)
  | .sync => true
  | .sym0 => true
  | .sym1 => true

/-- An instruction is well-formed for the modelled instance. -/
def Instr.wf (i : Instr) : Bool := i.wfWith Machine.cfg

end Sys2Proof
end

