-- ==== Sys2Proof/Certificates/Slice0/Obligations.lean ====
section
/-! DEFINITION. The statements for the provers. -/

open Sys2Proof Sys2Proof.Machine Sys2Proof.Safety

/-! ### Encodings -/

/-- Decoding an encoded well-formed instruction gives it back (30_encoding.md, all three kinds of word). -/
def Obligations.DecodeEncodeRoundTrip : Prop :=
  ∀ i : Instr, i.wf = true → decode (encode i) = .ok i

/-- Words written out from the spec's encodings decode to their instructions (95_test_vectors.md V1, V2, V3, V6). -/
def Obligations.WrittenWordsDecode : Prop :=
  decodeCommand 0x1FFFFFFF = .ok .select ∧
  decodeCommand 0x4ABCDEF7 = .ok .close ∧
  decodeCommand 0x20990050 = .ok (.txd 9 (some 1) (some 2)) ∧
  decodeCommand 0x30EAA580 = .ok (.txs 14 (some 2) (some ⟨false, 75⟩) none) ∧
  decodeCommand 0x50000000 = .rejected .reservedOp ∧
  decode [false, true, false, true, true, false, false, true, false, true, true, false] = .ok (.pktDumb 9 .low) ∧
  decode [true, false, true, false, true, true, true, false, true, false, false, true, false, false, true, false,
    true, true, false, false, true, true] = .ok (.pktSmart 14 .medium (.level 75)) ∧
  decode [true, true, true, true, false, false, false, false] = .ok .sync ∧
  decode [true, false, false] = .ok .sym0 ∧
  decode [true, true, false] = .ok .sym1

/-- `OP`, bits 31:28, alone decides the operation; 0 and 5 to 15 are reserved (30_encoding.md R81). -/
def Obligations.OperationIsTopFourBits : Prop :=
  ∀ w : CommandWord,
    (decodeCommand w = .ok .select ↔ w &&& 0xF0000000 = 0x10000000) ∧
    ((∃ a f p, decodeCommand w = .ok (.txd a f p)) ↔ w &&& 0xF0000000 = 0x20000000) ∧
    ((∃ a f l p, decodeCommand w = .ok (.txs a f l p)) ↔ w &&& 0xF0000000 = 0x30000000) ∧
    (decodeCommand w = .ok .close ↔ w &&& 0xF0000000 = 0x40000000) ∧
    (decodeCommand w = .rejected .reservedOp ↔ w.extractLsb' 28 4 = 0 ∨ 5 ≤ (w.extractLsb' 28 4).toNat)

/-- Ignored bits take no part in anything: two words that agree on `OP` and on the fields the operation uses (none for
SELECT and CLOSE; a field only where its valid bit is 1; no light field for TXD; never bits 2:0) make the same step
(30_encoding.md R88). -/
def Obligations.IgnoredBitsHaveNoEffect : Prop :=
  ∀ (s : State) (x : Inputs) (xs : List Inputs) (v w : CommandWord),
    let f := commandFields v
    let g := commandFields w
    f.op = g.op →
    (f.op = 2 ∨ f.op = 3 → f.addr = g.addr ∧ f.fv = g.fv ∧ (f.fv = true → f.fan = g.fan) ∧
      f.pv = g.pv ∧ (f.pv = true → f.pwr = g.pwr)) →
    (f.op = 3 → f.lv = g.lv ∧ (f.lv = true → f.lm = g.lm ∧ f.lval = g.lval)) →
    step { s with env := { x with cmd := v } :: xs } = step { s with env := { x with cmd := w } :: xs }

/-- The assembly notation: the spec's example line is its word (30_encoding.md R95), and a command line expands to
`select`, the transmit word, `close` (R96). -/
def Obligations.AssemblyExamples : Prop :=
  assembleWord (.txs 14 (.named .medium) (.percent 75) none) = some 0x30EAA580 ∧
  assembleWord (.txd 9 (.raw 5) none) = some 0x209D0000 ∧
  (cliDumb 9 .low (some 2)).map assembleWord = [some 0x10000000, some 0x20990050, some 0x40000000] ∧
  (cliSmart 14 .medium 75 none).map assembleWord = [some 0x10000000, some 0x30EAA580, some 0x40000000]

/-! ### The codec -/

/-- `LIGHT8`: the number of a level, `0x80` for off, `0x81` for on; injective; its codes are exactly 0x00 to 0x64, 0x80
and 0x81 (30_encoding.md R86). -/
def Obligations.LightCodesInjectiveAndLegal : Prop :=
  (∀ p : Fin 101, light8 (quantize cfg (.level p)) = BitVec.ofNat 8 p.val) ∧
  light8 (quantize cfg (.onOff false)) = 0x80 ∧ light8 (quantize cfg (.onOff true)) = 0x81 ∧
  (∀ l m : LightCommand, light8 l = light8 m → l = m) ∧
  (∀ b : BitVec 8, (∃ l, light8 l = b) ↔ b.toNat ≤ 0x64 ∨ b = 0x80 ∨ b = 0x81)

/-- Validation admits exactly the legal operands, whatever the other fields hold: for TXD the address and a supplied fan,
for TXS the address and whichever of fan and light is supplied (40_codec.md R122). -/
def Obligations.CodecValidatesExactlyTheLegalOperands : Prop :=
  ∀ (g : CommandFields) (lastFan : FanCommand) (lastLight : LightCommand),
    ((validateTxd cfg g.addr (underValid g.fv g.fan)).isSome = true ↔
      g.addr.toNat ≤ 15 ∧ g.fv = true ∧ g.fan.toNat ≤ 3) ∧
    ((resolveTxs cfg g.addr (underValid g.fv g.fan) (underValid g.lv ⟨g.lm, g.lval⟩) lastFan lastLight).isSome = true ↔
      g.addr.toNat ≤ 15 ∧ (g.fv = false ∨ g.fan.toNat ≤ 3) ∧
      (g.lv = false ∨ (g.lm = false ∧ g.lval.toNat ≤ 100) ∨ (g.lm = true ∧ g.lval.toNat ≤ 1)))

/-- The dumb round trip: 12 bits, in the layout of 30_encoding.md R90 with the check field of 40_codec.md R129, and the
inverse mapping recovers address and fan, for every fan command of `FAN_SET` (R133, R134). -/
def Obligations.DumbPacketRoundTrip : Prop :=
  ∀ (a : BitVec 4) (f : FanCommand), f ∈ cfg.fanSet →
    (encodeDumb cfg a f).length = 12 ∧
    encodeDumb cfg a f = dumbLayout a (fanCode cfg f) ∧
    decodeDumb cfg (encodeDumb cfg a f) = some (a, f)

/-- The smart round trip: always 22 bits with both fields, in the layout of 30_encoding.md R91 with the check field of
40_codec.md R132, and the inverse mapping recovers address, fan and light, for every fan command of `FAN_SET` (R131,
R133, R134). -/
def Obligations.SmartPacketRoundTrip : Prop :=
  ∀ (a : BitVec 4) (f : FanCommand) (l : LightCommand), f ∈ cfg.fanSet →
    (encodeSmart cfg a f l).length = 22 ∧
    encodeSmart cfg a f l = smartLayout a (fanCode cfg f) (light8 l) ∧
    decodeSmart cfg (encodeSmart cfg a f l) = some (a, f, l)

/-- No two legal operand sets have one packet, no packet of one family begins a packet of the other, and the check field of a
packet is the function of its other fields that 40_codec.md R129 and R132 give (R135). -/
def Obligations.PacketsDistinct : Prop :=
  (∀ a f a' f', f ∈ cfg.fanSet → f' ∈ cfg.fanSet → encodeDumb cfg a f = encodeDumb cfg a' f' → a = a' ∧ f = f') ∧
  (∀ a f l a' f' l', f ∈ cfg.fanSet → f' ∈ cfg.fanSet →
    encodeSmart cfg a f l = encodeSmart cfg a' f' l' → a = a' ∧ f = f' ∧ l = l') ∧
  (∀ a f a' f' l', ¬ encodeDumb cfg a f <+: encodeSmart cfg a' f' l' ∧
    ¬ encodeSmart cfg a' f' l' <+: encodeDumb cfg a f) ∧
  (∀ a f, let b := encodeDumb cfg a f
    bitsField b 10 2 = bitsField b 4 2 ^^^ bitsField b 6 2 ^^^ bitsField b 8 2) ∧
  (∀ a f l, let b := encodeSmart cfg a f l
    bitsField b 18 4 = bitsField b 4 4 ^^^ (bitsField b 8 2).setWidth 4 ^^^ bitsField b 10 4 ^^^ bitsField b 14 4)

/-- The instance's configuration meets every constraint of 00_scope.md R8, whatever the OPEN parameters are. -/
def Obligations.ConfigurationConforms : Prop := cfg.conforming = true

/-! ### The modulator -/

/-- Pulse count: `SYNC`'s pulses and each bit's symbol, for any configuration; `2 + 2L` with the default table, and the
bits are recovered from the pulses (41_modulator.md R154). -/
def Obligations.ModulatePulseCountAndRecovery : Prop :=
  (∀ (c : Config) (b : Bits), (modulate c b).length =
    c.sync.length + c.sym0.length * b.count false + c.sym1.length * b.count true) ∧
  (∀ b : Bits, (modulate cfg b).length = 2 + 2 * b.length) ∧
  (∀ b : Bits, demodulate cfg (modulate cfg b) = some b)

/-- The waveform lasts the sum of `SYNC`'s durations and, for each bit, of its symbol's, for any configuration; with the
default table `8 + 3L` ticks whatever the bits are, 44 for a dumb packet and 74 for a smart one; real time is ticks times
`T_UNIT` (41_modulator.md R155). -/
def Obligations.WaveformLength : Prop :=
  (∀ (c : Config) (b : Bits), (expand (modulate c b)).length = (c.sync.map Pulse.duration).sum +
    (b.map (fun x => ((symbolPulses c (bitSymbol x)).map Pulse.duration).sum)).sum) ∧
  (∀ (c : Config) (n : Nat), realTime c n = n * c.tUnit.seconds) ∧
  (∀ b : Bits, (waveform b).length = 8 + 3 * b.length) ∧
  (∀ a f, (waveform (encodeDumb cfg a f)).length = 44) ∧
  (∀ a f l, (waveform (encodeSmart cfg a f l)).length = 74)

/-- Streaming: pulse `k` of `modulate(b)` is the pulse of the symbol found under position `k`, for any configuration
(41_modulator.md R156). -/
def Obligations.PulseUnderPosition : Prop :=
  ∀ (c : Config) (b : Bits) (k : Nat),
    (modulate c b)[k]? = (locateSymbol c (packetSymbols b) k).bind (fun p => (symbolPulses c p.1)[p.2]?)

/-! ### The step -/

/-- A step runs the decoded instruction: the command word presented; with none presented, the packet in `PKT` in the
three busy states that are not Transmitting, and the symbol under the position while Transmitting (that packets and
symbols are fetched as words is the model's reading: assumptions 8, 9). Around `exec` the step ends the tick: its inputs
are gone and the tick counter goes on. -/
def Obligations.StepRunsDecodedInstruction : Prop :=
  ∀ (s t : State) (i : Instr), s.inputs.rst = false → exec i s = .next t →
    (s.inputs.cmdValid = true → decodeCommand s.inputs.cmd = .ok i →
      step s = .next { t with env := t.env.tail, tick := t.tick + 1 }) ∧
    (s.inputs.cmdValid = false → s.fsm = .poweringUp ∨ s.fsm = .awaitingReady ∨ s.fsm = .poweringDown →
      decodePacket cfg s.pkt = .ok i → step s = .next { t with env := t.env.tail, tick := t.tick + 1 }) ∧
    (s.inputs.cmdValid = false → s.fsm = .transmitting → ∀ y k,
      locateSymbol cfg (packetSymbols s.pkt) s.pidx = some (y, k) → symbolInstr y = i →
      step s = .next { t with env := t.env.tail, tick := t.tick + 1 })

/-- The step function is total: every state, with whatever inputs it holds, has a next state (43_backend.md R215). -/
def Obligations.StepIsTotal : Prop := ∀ s : State, ∃ t, step s = .next t

/-- Running the word of the tick is the dispatch of 43_backend.md R215 with the Transmitting step on `modulate(PKT)`
(42_handshake.md R178): the two designs of a tick agree in every state, and they agree for the machine with any other
parameters too (00_scope.md R8). Both read the tick's inputs from the model's own `env`, and `advance` moves the model's
own `env` and `tick` on (assumption 1). -/
def Obligations.StepIsTheDispatch : Prop :=
  (∀ s : State, step s = .next (advance (dispatchTick cfg s))) ∧
  ∀ (c : Config) (s : State), stepWith c s = advance (dispatchTick c s)

/-- Reset wins over everything and gives every register the spec names a value for that value (70_reset_and_hazards.md
R270, R271; 10_state.md R44). -/
def Obligations.ResetWins : Prop :=
  ∀ s : State, s.inputs.rst = true → ∃ t, step s = .next t ∧
    t.fsm = .idle ∧ t.backend = .unselected ∧ t.closed = false ∧ t.claim = false ∧ t.en = false ∧ t.tx = false ∧
    t.result = .none ∧ t.warn = false ∧ t.rej = false ∧ t.lastFan = .off ∧ t.lastLight = .level 0

/-- After reset: the values of 10_state.md R44, the status words among them. -/
def Obligations.ResetValues : Prop :=
  State.reset.fsm = .idle ∧ State.reset.backend = .unselected ∧ State.reset.closed = false ∧
  State.reset.claim = false ∧ State.reset.en = false ∧ State.reset.tx = false ∧ State.reset.result = .none ∧
  State.reset.warn = false ∧ State.reset.rej = false ∧ State.reset.lastFan = .off ∧
  light8 State.reset.lastLight = 0x00 ∧ status State.reset = 0x0000 ∧ lastv cfg State.reset = 0x000 ∧
  fail State.reset = false

/-- Rejection: a word presented while busy, while closed, with a reserved `OP`, or a transmit word before SELECT, sets
`REJ` and nothing else; a busy state's step proceeds as if no word had been presented (43_backend.md R216). -/
def Obligations.RejectedWordOnlySetsRej : Prop :=
  ∀ (s t : State) (x : Inputs) (xs : List Inputs) (w : CommandWord), x.rst = false →
    (s.fsm ≠ .idle ∨ s.closed = true ∨ decodeCommand w = .rejected .reservedOp ∨
      (s.backend = .unselected ∧ decodeCommand w ≠ .ok .select ∧ decodeCommand w ≠ .ok .close)) →
    step { s with env := { x with cmdValid := false } :: xs } = .next t →
    step { s with env := { x with cmdValid := true, cmd := w } :: xs } = .next { t with rej := true }

/-- In Idle with no word presented and no reset nothing changes (43_backend.md R215). -/
def Obligations.IdleWithoutWordIsStill : Prop :=
  ∀ s : State, s.inputs.rst = false → s.inputs.cmdValid = false → s.fsm = .idle →
    step s = .next { s with env := s.env.tail, tick := s.tick + 1 }

/-! ### The command words -/

/-- SELECT, in Idle and not closed: Hardware exactly when all three probes are 1 at the first SELECT, else Dummy with the
warning; later SELECTs change nothing (43_backend.md R211). -/
def Obligations.SelectResult : Prop :=
  ∀ s : State, s.fsm = .idle → s.closed = false →
    exec .select s = .next (
      if s.backend = .unselected then
        if s.inputs.probeBus = true ∧ s.inputs.probeIrq = true ∧ s.inputs.probeSdn = true then
          { s with backend := .hardware, claim := true }
        else { s with backend := .dummy, warn := true, claim := false }
      else s)

/-- CLOSE, in Idle and not closed, whatever the backend is; it is rejected while busy, and after it every command word is
rejected (43_backend.md R214). -/
def Obligations.CloseResult : Prop :=
  ∀ s : State,
    (s.fsm = .idle → s.closed = false → exec .close s = .next { s with claim := false, closed := true }) ∧
    (s.fsm ≠ .idle → exec .close s = .next (fsmStep cfg { s with rej := true })) ∧
    (s.fsm = .idle → s.closed = false → ∀ t, exec .close s = .next t →
      exec .select t = .next { t with rej := true } ∧ exec .close t = .next { t with rej := true } ∧
      (∀ a f p, exec (.txd a f p) t = .next { t with rej := true }) ∧
      (∀ a f l p, exec (.txs a f l p) t = .next { t with rej := true }))

/-- A command word that is not served: while busy, while closed, and a transmit word before SELECT (43_backend.md R216). -/
def Obligations.UnservedCommandResult : Prop :=
  ∀ (i : Instr) (s : State),
    (i = .select ∨ i = .close ∨ (∃ a f p, i = .txd a f p) ∨ (∃ a f l p, i = .txs a f l p)) →
    (s.fsm ≠ .idle → exec i s = .next (fsmStep cfg { s with rej := true })) ∧
    (s.fsm = .idle → s.closed = true → exec i s = .next { s with rej := true }) ∧
    (s.fsm = .idle → s.backend = .unselected → i ≠ .select → i ≠ .close →
      exec i s = .next { s with rej := true })

/-- TXD with an operand outside its domain writes `InvalidCommand` and nothing else, under either backend; the power
level counts under Hardware only (40_codec.md R122, R123; 42_handshake.md R172). -/
def Obligations.TxdInvalidResult : Prop :=
  ∀ (addr : BitVec 8) (fan power : Option (BitVec 3)) (s : State),
    s.fsm = .idle → s.closed = false → s.backend ≠ .unselected →
    (16 ≤ addr.toNat ∨ fan = none ∨ (∃ f, fan = some f ∧ 4 ≤ f.toNat) ∨
      (s.backend = .hardware ∧ ∃ p, power = some p ∧ 5 ≤ p.toNat)) →
    exec (.txd addr fan power) s = .next { s with result := .invalidCommand }

/-- A valid TXD under Hardware starts a transmission of the dumb packet (42_handshake.md R171, R173). `PWR_L` is the
supplied level; with none supplied nothing is claimed of it. -/
def Obligations.TxdStartsUnderHardware : Prop :=
  ∀ (addr : BitVec 8) (f : BitVec 3) (fan : FanCommand) (power : Option (BitVec 3)) (s : State),
    s.fsm = .idle → s.closed = false → s.backend = .hardware →
    addr.toNat ≤ 15 → fanNamed f.toNat = some fan → (∀ p, power = some p → p.toNat ≤ 4) →
    ∃ v, (∀ p, power = some p → v = p) ∧
      exec (.txd addr (some f) power) s = .next
        { s with pkt := dumbLayout (addr.setWidth 4) f, pendSmart := false,
                 pendFan := fan, pendLight := .level 0, pwrV := power.isSome, pwrL := v,
                 result := .none, fsm := .poweringUp }

/-- A valid TXD under Dummy is complete at once: `RESULT` is `Ok` and nothing else changes, whatever the power level
(43_backend.md R218). -/
def Obligations.TxdUnderDummy : Prop :=
  ∀ (addr : BitVec 8) (f : BitVec 3) (power : Option (BitVec 3)) (s : State),
    s.fsm = .idle → s.closed = false → s.backend = .dummy → addr.toNat ≤ 15 → f.toNat ≤ 3 →
    exec (.txd addr (some f) power) s = .next { s with result := .ok }

/-- TXS with an operand outside its domain writes `InvalidCommand` and nothing else (40_codec.md R122, R123;
42_handshake.md R172). -/
def Obligations.TxsInvalidResult : Prop :=
  ∀ (addr : BitVec 8) (fan : Option (BitVec 3)) (light : Option LightField) (power : Option (BitVec 3)) (s : State),
    s.fsm = .idle → s.closed = false → s.backend ≠ .unselected →
    (16 ≤ addr.toNat ∨ (∃ f, fan = some f ∧ 4 ≤ f.toNat) ∨
      (∃ l, light = some l ∧ ((l.lm = false ∧ 101 ≤ l.lval.toNat) ∨ (l.lm = true ∧ 2 ≤ l.lval.toNat))) ∨
      (s.backend = .hardware ∧ ∃ p, power = some p ∧ 5 ≤ p.toNat)) →
    exec (.txs addr fan light power) s = .next { s with result := .invalidCommand }

/-- A valid TXS under Hardware starts a transmission of the smart packet, with an absent fan or light carried forward
(42_handshake.md R181, R173; 40_codec.md R124). -/
def Obligations.TxsStartsUnderHardware : Prop :=
  ∀ (addr : BitVec 8) (fan : Option (BitVec 3)) (light : Option LightField) (power : Option (BitVec 3))
    (fanEff : FanCommand) (lightEff : LightCommand) (s : State),
    s.fsm = .idle → s.closed = false → s.backend = .hardware → addr.toNat ≤ 15 →
    smartFan fan s = some fanEff → smartLight light s = some lightEff → (∀ p, power = some p → p.toNat ≤ 4) →
    ∃ v, (∀ p, power = some p → v = p) ∧
      exec (.txs addr fan light power) s = .next
        { s with pkt := smartLayout (addr.setWidth 4) (fanCode cfg fanEff) (light8 lightEff), pendSmart := true,
                 pendFan := fanEff, pendLight := lightEff, pwrV := power.isSome, pwrL := v,
                 result := .none, fsm := .poweringUp }

/-- A valid TXS under Dummy is complete at once and its values become the last-known ones (43_backend.md R218). -/
def Obligations.TxsUnderDummy : Prop :=
  ∀ (addr : BitVec 8) (fan : Option (BitVec 3)) (light : Option LightField) (power : Option (BitVec 3))
    (fanEff : FanCommand) (lightEff : LightCommand) (s : State),
    s.fsm = .idle → s.closed = false → s.backend = .dummy → addr.toNat ≤ 15 →
    smartFan fan s = some fanEff → smartLight light s = some lightEff →
    exec (.txs addr fan light power) s =
      .next { s with result := .ok, lastFan := fanEff, lastLight := lightEff }

/-! ### The packet words and the symbols -/

/-- PKT_DUMB: the tick of the driver with that packet in `PKT` (in Idle only `PKT` is written); where the ready line is
high in AwaitingReady, the burst of the packet begins (40_codec.md R127; 42_handshake.md R176). The reading of the row
as an instruction is the model's (assumption 8). -/
def Obligations.PktDumbResult : Prop :=
  ∀ (a : BitVec 4) (f : FanCommand) (s : State),
    exec (.pktDumb a f) s = .next (fsmStep cfg { s with pkt := dumbLayout a (fanCode cfg f) }) ∧
    (s.fsm = .idle → exec (.pktDumb a f) s = .next { s with pkt := dumbLayout a (fanCode cfg f) }) ∧
    (s.fsm = .awaitingReady → s.inputs.readyIn = true → exec (.pktDumb a f) s = .next
      { s with pkt := dumbLayout a (fanCode cfg f), pidx := 0, dcnt := 4, fsm := .transmitting })

/-- PKT_SMART: the same for a smart packet (40_codec.md R130; 42_handshake.md R176). The reading of the row as an
instruction is the model's (assumption 8). -/
def Obligations.PktSmartResult : Prop :=
  ∀ (a : BitVec 4) (f : FanCommand) (l : LightCommand) (s : State),
    exec (.pktSmart a f l) s = .next (fsmStep cfg { s with pkt := smartLayout a (fanCode cfg f) (light8 l) }) ∧
    (s.fsm = .idle → exec (.pktSmart a f l) s = .next { s with pkt := smartLayout a (fanCode cfg f) (light8 l) }) ∧
    (s.fsm = .awaitingReady → s.inputs.readyIn = true → exec (.pktSmart a f l) s = .next
      { s with pkt := smartLayout a (fanCode cfg f) (light8 l), pidx := 0, dcnt := 4, fsm := .transmitting })

/-- SYNC, at its own place in the burst: `on` for its first pulse, `off` for its second (30_encoding.md R92;
42_handshake.md R178). The reading of the row as an instruction is the model's (assumption 9). -/
def Obligations.SyncResult : Prop :=
  ∀ s : State, s.fsm = .transmitting → s.pidx < 2 → s.inputs.busErr = false →
    exec .sync s = .next (afterEmission (decide (s.pidx = 0)) s)

/-- SYM0, under bit `j` of the packet where that bit is 0: `on` for its first pulse, `off` for its second
(30_encoding.md R92; 42_handshake.md R178). The reading of the row as an instruction is the model's (assumption 9). -/
def Obligations.SymZeroResult : Prop :=
  ∀ (s : State) (j e : Nat), s.fsm = .transmitting → s.pkt[j]? = some false → e < 2 → s.pidx = 2 + 2 * j + e →
    s.inputs.busErr = false → exec .sym0 s = .next (afterEmission (decide (e = 0)) s)

/-- SYM1, under bit `j` of the packet where that bit is 1: `on` for its first pulse, `off` for its second
(30_encoding.md R92; 42_handshake.md R178). The reading of the row as an instruction is the model's (assumption 9). -/
def Obligations.SymOneResult : Prop :=
  ∀ (s : State) (j e : Nat), s.fsm = .transmitting → s.pkt[j]? = some true → e < 2 → s.pidx = 2 + 2 * j + e →
    s.inputs.busErr = false → exec .sym1 s = .next (afterEmission (decide (e = 0)) s)

/-- A symbol whose tick meets a bus failure is not emitted: `TransmissionFailed` is entered (42_handshake.md R178,
R179; 60_exceptions.md R234); outside Transmitting a symbol is not looked at (10_state.md R36; assumption 9). -/
def Obligations.SymbolFailureResult : Prop :=
  ∀ (i : Instr) (s : State), i = .sync ∨ i = .sym0 ∨ i = .sym1 →
    (s.fsm = .transmitting → s.inputs.busErr = true →
      exec i s = .next { s with tx := false, result := .transmissionFailed, fsm := .poweringDown }) ∧
    (s.fsm ≠ .transmitting → exec i s = .next (fsmStep cfg s))

/-! ### The steps of the busy states -/

/-- The PoweringUp step, and the register write its ports show (42_handshake.md R175; 10_state.md R37). -/
def Obligations.PoweringUpStepResult : Prop :=
  ∀ s : State, s.fsm = .poweringUp → s.inputs.rst = false → s.inputs.cmdValid = false →
    busWrite cfg s = (if s.pwrV then some ⟨cfg.pwrRegAddr, cfg.pwrCode s.pwrL⟩ else none) ∧
    step s = .next (advance (
      if s.pwrV = true ∧ s.inputs.busErr = true then
        { s with en := true, result := .transmissionFailed, fsm := .poweringDown }
      else { s with en := true, timer := 0, fsm := .awaitingReady }))

/-- The AwaitingReady step: ready is sampled first and wins over the bound (42_handshake.md R176). -/
def Obligations.AwaitingReadyStepResult : Prop :=
  ∀ s : State, s.fsm = .awaitingReady → s.inputs.rst = false → s.inputs.cmdValid = false →
    step s = .next (advance (
      if s.inputs.readyIn = true then
        { s with pidx := 0, dcnt := pulseDuration (modulate cfg s.pkt) 0, fsm := .transmitting }
      else if s.timer + 1 ≥ cfg.readyTimeout then
        { s with timer := s.timer + 1, result := .hardwareTimeout, fsm := .poweringDown }
      else { s with timer := s.timer + 1 }))

/-- The Transmitting step on a pulse of the packet: a bus failure wins, else the pulse's level is emitted
(42_handshake.md R178). -/
def Obligations.TransmittingStepResult : Prop :=
  ∀ (s : State) (p : Pulse), s.fsm = .transmitting → (modulate cfg s.pkt)[s.pidx]? = some p →
    s.inputs.rst = false → s.inputs.cmdValid = false →
    step s = .next (advance (
      if s.inputs.busErr = true then { s with tx := false, result := .transmissionFailed, fsm := .poweringDown }
      else afterEmission p.level s))

/-- The PoweringDown step: lines released, `Ok` if nothing failed, and only then the smart values are committed
(42_handshake.md R180). -/
def Obligations.PoweringDownStepResult : Prop :=
  ∀ s : State, s.fsm = .poweringDown → s.inputs.rst = false → s.inputs.cmdValid = false →
    step s = .next (advance (
      if s.result = .none then
        { s with en := false, tx := false, result := .ok, fsm := .idle,
                 lastFan := if s.pendSmart then s.pendFan else s.lastFan,
                 lastLight := if s.pendSmart then s.pendLight else s.lastLight }
      else { s with en := false, tx := false, fsm := .idle }))

/-- What each error entry saves and changes, and where control goes (60_exceptions.md R231 to R234, R242). -/
def Obligations.ErrorEntries : Prop :=
  ∀ s : State,
    raise .hardwareUnavailable s = { s with backend := .dummy, warn := true, claim := false } ∧
    raise .invalidCommand s = { s with result := .invalidCommand } ∧
    raise .hardwareTimeout s = { s with result := .hardwareTimeout, fsm := .poweringDown } ∧
    (s.fsm = .transmitting → raise .transmissionFailed s =
      { s with result := .transmissionFailed, tx := false, fsm := .poweringDown })

/-! ### Status words -/

/-- The codes of `FSM`, `RESULT` and `BACKEND`, the layout of `STATUS`, and `BUSY` in it (10_state.md R34, R31, R28, R32,
R33). -/
def Obligations.StatusLayout : Prop :=
  ([Fsm.idle, .poweringUp, .awaitingReady, .transmitting, .poweringDown].map fsmCode = [0, 1, 2, 3, 4]) ∧
  ([Result.none, .ok, .invalidCommand, .hardwareTimeout, .transmissionFailed].map resultCode = [0, 1, 2, 3, 4]) ∧
  ([Backend.unselected, .hardware, .dummy].map backendCode = [0, 1, 2]) ∧
  ∀ s : State,
    (status s).extractLsb' 0 3 = resultCode s.result ∧
    ((status s).getLsbD 3 = true ↔ s.fsm ≠ .idle) ∧
    (status s).extractLsb' 4 2 = backendCode s.backend ∧
    (status s).getLsbD 6 = s.warn ∧ (status s).getLsbD 7 = s.rej ∧
    (status s).getLsbD 8 = s.closed ∧ (status s).getLsbD 9 = s.claim ∧
    (status s).extractLsb' 10 3 = fsmCode s.fsm ∧
    (status s).extractLsb' 13 3 = 0

/-- The layout of `LASTV`, and when `FAIL` is 1 (10_state.md R35, R38). -/
def Obligations.LastvLayoutAndFail : Prop :=
  ∀ s : State,
    (s.lastFan ∈ cfg.fanSet → ((lastv cfg s).extractLsb' 8 2).setWidth 3 = fanCode cfg s.lastFan) ∧
    (lastv cfg s).extractLsb' 0 8 = light8 s.lastLight ∧
    (fail s = true ↔ s.result = .invalidCommand ∨ s.result = .hardwareTimeout ∨ s.result = .transmissionFailed)

/-! ### Invariants and whole-machine rules -/

/-- The state after reset is safe (10_state.md R43, R44), and its registers are in their ranges (R23, R26, R29). -/
def Obligations.ResetIsSafe : Prop := SafeState State.reset ∧ InFlight State.reset ∧ FansInSet State.reset

/-- The invariants of 10_state.md R43 are kept by every step, from every state that has them. -/
def Obligations.StepKeepsSafeState : Prop :=
  ∀ s t : State, SafeState s → step s = .next t → SafeState t

/-- Every state reachable from reset, whatever the inputs are, has the invariants of 10_state.md R43. -/
def Obligations.ReachableStatesAreSafe : Prop :=
  ∀ (inputs : List Inputs) (now k : Nat) (t : State),
    run k { State.reset with env := inputs, tick := now } = .next t → SafeState t

/-- The transmission registers stay in their ranges: the packet in flight is the pending values' packet, the position is
on a pulse, the wait is within the bound, the result is open (10_state.md R24, R27, R29, R30); and the fan registers
hold members of `FAN_SET` (R23, R26: `PEND_FAN` in a busy state). -/
def Obligations.StepKeepsInFlight : Prop :=
  ∀ s t : State, step s = .next t → (InFlight s → InFlight t) ∧ (FansInSet s → FansInSet t)

/-- The transitions of the state machine are those of the table of 42_handshake.md R170, under its guards and with its
results, and no other. -/
def Obligations.TransitionsOfTheTable : Prop :=
  ∀ s t : State, s.inputs.rst = false → step s = .next t →
    match s.fsm with
    | .idle =>
        (StartsTransmission s → t.fsm = .poweringUp ∧ t.result = .none) ∧
        (¬ StartsTransmission s → t.fsm = .idle)
    | .poweringUp =>
        if s.pwrV = true ∧ s.inputs.busErr = true then t.fsm = .poweringDown ∧ t.result = .transmissionFailed
        else t.fsm = .awaitingReady ∧ t.result = s.result
    | .awaitingReady =>
        if s.inputs.readyIn = true then t.fsm = .transmitting ∧ t.result = s.result
        else if s.timer + 1 < cfg.readyTimeout then t.fsm = .awaitingReady ∧ t.result = s.result
        else t.fsm = .poweringDown ∧ t.result = .hardwareTimeout
    | .transmitting =>
        if s.inputs.busErr = true then t.fsm = .poweringDown ∧ t.result = .transmissionFailed
        else if s.dcnt ≤ 1 ∧ (modulate cfg s.pkt).length ≤ s.pidx + 1 then t.fsm = .poweringDown ∧ t.result = s.result
        else t.fsm = .transmitting ∧ t.result = s.result
    | .poweringDown => t.fsm = .idle ∧ t.result = (if s.result = .none then .ok else s.result)

/-- Once chosen the backend changes only by reset, and `WARN`, `REJ`, `CLOSED` are cleared only by reset (10_state.md
R31, R33). -/
def Obligations.BackendFixedAndFlagsSticky : Prop :=
  ∀ s t : State, s.inputs.rst = false → step s = .next t →
    (s.backend ≠ .unselected → t.backend = s.backend) ∧
    (s.warn = true → t.warn = true) ∧ (s.rej = true → t.rej = true) ∧ (s.closed = true → t.closed = true)

/-- `EN` goes to 1 only in PoweringUp and to 0 only in PoweringDown; `TX` changes only in Transmitting and PoweringDown;
but for reset (10_state.md R36). -/
def Obligations.LinesWrittenOnlyByTheirSteps : Prop :=
  ∀ s t : State, s.inputs.rst = false → step s = .next t →
    (s.en = false → t.en = true → s.fsm = .poweringUp) ∧
    (s.en = true → t.en = false → s.fsm = .poweringDown) ∧
    (t.tx ≠ s.tx → s.fsm = .transmitting ∨ s.fsm = .poweringDown)

/-- The last-known values change only where a smart transmission ends `Ok`, but for reset (10_state.md R23;
42_handshake.md R180; 43_backend.md R218). -/
def Obligations.LastValuesChangeOnlyOnSuccess : Prop :=
  ∀ s t : State, s.inputs.rst = false → step s = .next t →
    (t.lastFan ≠ s.lastFan ∨ t.lastLight ≠ s.lastLight) →
    t.result = .ok ∧
      ((s.fsm = .poweringDown ∧ s.result = .none ∧ s.pendSmart = true) ∨
       (s.fsm = .idle ∧ s.backend = .dummy ∧ s.inputs.cmdValid = true ∧
          ∃ a f l p, decodeCommand s.inputs.cmd = .ok (.txs a f l p)))

/-- Under the Dummy Backend no step moves a line, issues a register write, leaves Idle, or depends on the ready line or
on bus failures, and no pin is driven (43_backend.md R217, R219; 10_state.md R36). -/
def Obligations.DummyBackendDoesNoIO : Prop :=
  ∀ (s t : State) (x : Inputs) (xs : List Inputs), SafeState s → s.backend = .dummy → s.env = x :: xs →
    x.rst = false → step s = .next t →
    t.en = s.en ∧ t.tx = s.tx ∧ t.fsm = .idle ∧ busWrite cfg s = none ∧
    enPin cfg t = .released ∧ txPin t = .released ∧ busPins cfg t = .released ∧
    ∀ ready err, step { s with env := { x with readyIn := ready, busErr := err } :: xs } = .next t

/-- The modes and how they are left: only a SELECT leaves Unselected for Hardware or Dummy, by the probes; only a CLOSE
leads to Closed; Closed is left by reset alone (60_exceptions.md R245). -/
def Obligations.ModeChanges : Prop :=
  ∀ s t : State, s.inputs.rst = false → step s = .next t → mode t ≠ mode s →
    s.inputs.cmdValid = true ∧ s.fsm = .idle ∧
    ((decodeCommand s.inputs.cmd = .ok .select ∧ mode s = .unselected ∧
        mode t = (if s.inputs.probeBus = true ∧ s.inputs.probeIrq = true ∧ s.inputs.probeSdn = true
          then .hardware else .dummy)) ∨
     (decodeCommand s.inputs.cmd = .ok .close ∧ mode s ≠ .closed ∧ mode t = .closed))

/-- The driver is variant-blind once `PKT` is written: with other pending and last-known values a busy step moves the
lines, the position, the timer and the result the same way (42_handshake.md R184). -/
def Obligations.DriverIsVariantBlind : Prop :=
  ∀ (s t : State) (smart : Bool) (f lf : FanCommand) (l ll : LightCommand), s.fsm ≠ .idle → step s = .next t →
    ∃ u, step { s with pendSmart := smart, pendFan := f, pendLight := l, lastFan := lf, lastLight := ll } = .next u ∧
      u.fsm = t.fsm ∧ u.en = t.en ∧ u.tx = t.tx ∧ u.result = t.result ∧ u.pidx = t.pidx ∧ u.dcnt = t.dcnt ∧
      u.timer = t.timer ∧ u.pkt = t.pkt

/-! ### Runs -/

/-- The burst: from its first tick, with no failure and no reset, the `k`-th Transmitting step writes `expand(P)[k]`, and
the state is left exactly after `len(expand(P))` ticks (42_handshake.md R178). -/
def Obligations.BurstEmitsWaveform : Prop :=
  ∀ s : State, s.fsm = .transmitting → s.pidx = 0 → s.dcnt = pulseDuration (modulate cfg s.pkt) 0 →
    (∀ k, k < (waveform s.pkt).length → (inputsAt s k).rst = false ∧ (inputsAt s k).busErr = false) →
    ∀ k, k < (waveform s.pkt).length → ∃ t, run (k + 1) s = .next t ∧
      (waveform s.pkt)[k]? = some t.tx ∧
      t.fsm = (if k + 1 < (waveform s.pkt).length then .transmitting else .poweringDown)

/-- Bus failure in mid-burst is precise: at the failing tick nothing is emitted and `TX` is forced to 0, one tick later
the sequencer is in Idle with its lines released, the error kept and the last-known values as they were
(42_handshake.md R179; 60_exceptions.md R234, R236). -/
def Obligations.BusFailureIsPrecise : Prop :=
  ∀ s : State, s.fsm = .transmitting → s.inputs.rst = false → s.inputs.busErr = true → (inputsAt s 1).rst = false →
    (∃ t, run 1 s = .next t ∧ t.tx = false ∧ t.result = .transmissionFailed ∧ t.fsm = .poweringDown ∧
      t.pidx = s.pidx ∧ t.dcnt = s.dcnt ∧ t.pkt = s.pkt) ∧
    (∃ t, run 2 s = .next t ∧ t.fsm = .idle ∧ t.en = false ∧ t.tx = false ∧ t.result = .transmissionFailed ∧
      t.lastFan = s.lastFan ∧ t.lastLight = s.lastLight ∧ t.claim = s.claim ∧ t.backend = s.backend)

/-- The wait is bounded: without reset AwaitingReady is left within `READY_TIMEOUT` ticks of its beginning
(42_handshake.md R177). -/
def Obligations.ReadyWaitIsBounded : Prop :=
  ∀ s : State, s.fsm = .awaitingReady → s.timer = 0 →
    (∀ k, k < cfg.readyTimeout → (inputsAt s k).rst = false) →
    ∃ k t, 1 ≤ k ∧ k ≤ cfg.readyTimeout ∧ run k s = .next t ∧ (t.fsm = .transmitting ∨ t.fsm = .poweringDown)

/-- The ready timeout: `READY_TIMEOUT` low samples give `HardwareTimeout` at the last of them, `TX` stays 0 all along,
and one tick later the lines are released in Idle (42_handshake.md R176; 60_exceptions.md R233). -/
def Obligations.ReadyTimeoutRun : Prop :=
  ∀ s : State, SafeState s → s.fsm = .awaitingReady → s.timer = 0 → s.result = .none →
    (∀ k, k < cfg.readyTimeout → (inputsAt s k).rst = false ∧ (inputsAt s k).readyIn = false) →
    (inputsAt s cfg.readyTimeout).rst = false →
    (∀ k, k < cfg.readyTimeout → ∃ t, run k s = .next t ∧ t.fsm = .awaitingReady ∧ t.timer = k ∧ t.tx = false ∧
      t.en = true ∧ t.result = .none) ∧
    (∃ t, run cfg.readyTimeout s = .next t ∧ t.fsm = .poweringDown ∧ t.result = .hardwareTimeout ∧ t.tx = false) ∧
    (∃ t, run (cfg.readyTimeout + 1) s = .next t ∧ t.fsm = .idle ∧ t.result = .hardwareTimeout ∧ t.en = false ∧
      t.tx = false ∧ t.lastFan = s.lastFan ∧ t.lastLight = s.lastLight)

/-- The trace of a successful transmission (42_handshake.md R182): the coming tick takes Idle to PoweringUp (a valid TXD
or TXS is accepted under Hardware), the ready line is low for `r - 1` samples and high at the `r`-th, `bus_err` is 0 at
every tick where it is read, and no reset comes. `s1` is the state after the accepting tick. -/
def Obligations.SuccessfulTransmissionTrace : Prop :=
  ∀ (s s1 : State) (r : Nat), SafeState s → s.fsm = .idle → step s = .next s1 → s1.fsm = .poweringUp →
    1 ≤ r → r ≤ cfg.readyTimeout →
    (∀ k, k < 3 + r + (waveform s1.pkt).length → (inputsAt s k).rst = false) →
    (s1.pwrV = true → (inputsAt s 1).busErr = false) →
    (∀ k, k < (waveform s1.pkt).length → (inputsAt s (2 + r + k)).busErr = false) →
    (∀ k, k + 1 < r → (inputsAt s (2 + k)).readyIn = false) → (inputsAt s (1 + r)).readyIn = true →
    ∀ j, 1 ≤ j → j ≤ 3 + r + (waveform s1.pkt).length → ∃ t, run j s = .next t ∧
      t.en = decide (2 ≤ j ∧ j ≤ 2 + r + (waveform s1.pkt).length) ∧
      t.tx = (if 3 + r ≤ j then ((waveform s1.pkt)[j - (3 + r)]?).getD false else false) ∧
      busy t = decide (j ≤ 2 + r + (waveform s1.pkt).length) ∧
      t.result = (if j ≤ 2 + r + (waveform s1.pkt).length then .none else .ok) ∧
      busWrValid cfg t = (decide (j = 1) && s1.pwrV)

/-- Every busy run reaches Idle within a bounded number of ticks, whatever the other inputs do (43_backend.md R220;
42_handshake.md R177, R178). -/
def Obligations.BusyRunReachesIdle : Prop :=
  ∀ s : State, InFlight s →
    (∀ k, k < 3 + cfg.readyTimeout + (waveform s.pkt).length → (inputsAt s k).rst = false) →
    ∃ k t, k ≤ 3 + cfg.readyTimeout + (waveform s.pkt).length ∧ run k s = .next t ∧ t.fsm = .idle
end

