-- ==== Sys2Proof/Laws/Bits.lean ====
section
/-! SUPPORT. The bit-sequence helpers: lengths, and `val` undoes `bits_N`. -/

namespace Sys2Proof.Machine

@[simp] theorem natBits_length (n v : Nat) : (natBits n v).length = n := by
  induction n with
  | zero => rfl
  | succ n ih => simp [natBits, ih]

@[simp] theorem wordBits_length {n : Nat} (v : BitVec n) : (wordBits v).length = n := natBits_length n v.toNat

/-- `val` with a number already read. -/
theorem foldl_bits (b : Bits) (m : Nat) :
    b.foldl (fun n x => 2 * n + x.toNat) m = m * 2 ^ b.length + bitsVal b := by
  induction b generalizing m with
  | nil => simp [bitsVal]
  | cons x b ih =>
    simp only [bitsVal, List.foldl_cons, List.length_cons] at ih ⊢
    rw [ih, ih (2 * 0 + x.toNat)]
    ring

theorem bitsVal_cons (x : Bool) (b : Bits) : bitsVal (x :: b) = x.toNat * 2 ^ b.length + bitsVal b := by
  show b.foldl _ (2 * 0 + x.toNat) = _
  rw [foldl_bits]
  simp

@[simp] theorem bitsVal_nil : bitsVal [] = 0 := rfl

/-- `val(bits_N(v))` is `v` cut to N bits (00_scope.md section 5). -/
theorem bitsVal_natBits (n v : Nat) : bitsVal (natBits n v) = v % 2 ^ n := by
  induction n with
  | zero => simp [natBits, Nat.mod_one]
  | succ n ih =>
    rw [natBits, bitsVal_cons, ih, natBits_length, Nat.testBit_eq_decide_div_mod_eq, Nat.mod_pow_succ]
    rcases Nat.mod_two_eq_zero_or_one (v / 2 ^ n) with h | h <;> simp [h, Nat.add_comm]

@[simp] theorem bitsVal_wordBits {n : Nat} (v : BitVec n) : bitsVal (wordBits v) = v.toNat := by
  rw [wordBits, bitsVal_natBits, Nat.mod_eq_of_lt v.isLt]

/-- A field read back from the place it was written at. -/
theorem bitsNumber_append (pre post : Bits) (n v p : Nat) (h : pre.length = p) :
    bitsNumber (pre ++ natBits n v ++ post) p n = v % 2 ^ n := by
  subst h
  simp [bitsNumber, List.append_assoc, bitsVal_natBits]

/-- A word read back from the place it was written at. -/
theorem bitsField_append {n : Nat} (pre post : Bits) (v : BitVec n) (p : Nat) (h : pre.length = p) :
    bitsField (pre ++ wordBits v ++ post) p n = v := by
  rw [bitsField, wordBits, bitsNumber_append _ _ _ _ _ h]
  simp

/-- The instance's fan commands are the four named ones (00_scope.md R8). -/
theorem mem_fanSet {f : FanCommand} : f ∈ cfg.fanSet ↔ f = .off ∨ f = .low ∨ f = .medium ∨ f = .high := by
  simp [cfg]

/-- The code of a member of the instance's `FAN_SET` gives it back (30_encoding.md R84). -/
theorem fanOfCode_fanCode {f : FanCommand} (h : f ∈ cfg.fanSet) : fanOfCode cfg (fanCode cfg f).toNat = some f := by
  rcases mem_fanSet.1 h with rfl | rfl | rfl | rfl <;> decide

/-- The 2-bit codes are those of the instance's `FAN_SET`. -/
theorem fanCode_lt {f : FanCommand} (h : f ∈ cfg.fanSet) : (fanCode cfg f).toNat < 4 := by
  rcases mem_fanSet.1 h with rfl | rfl | rfl | rfl <;> decide

@[simp] theorem lightOfCode_light8 (l : LightCommand) : lightOfCode cfg (light8 l).toNat = some l := by
  cases l with
  | level q => revert q; decide
  | onOff b => cases b <;> decide

end Sys2Proof.Machine
end

