-- ==== Sys2Proof/Laws/Config.lean ====
section
/-! SUPPORT. The instance's parameters, one lemma per field that has a default (00_scope.md R8), each true by definition: a
proof rewrites with these and does not unfold `cfg`; and the operand tests as the spec writes them. -/

namespace Sys2Proof.Machine

@[simp] theorem cfg_addrBits : cfg.addrBits = 4 := rfl
@[simp] theorem cfg_addrMax : cfg.addrMax = 15 := rfl
@[simp] theorem cfg_fanSet : cfg.fanSet = [.off, .low, .medium, .high] := rfl
@[simp] theorem cfg_fanBits : cfg.fanBits = 2 := rfl
@[simp] theorem cfg_lightMax : cfg.lightMax = 100 := rfl
@[simp] theorem cfg_lightBits : cfg.lightBits = 8 := rfl
@[simp] theorem cfg_lightQuant (p : Fin 101) : cfg.lightQuant p = p := rfl
@[simp] theorem cfg_lDumb : cfg.lDumb = 12 := rfl
@[simp] theorem cfg_lSmart : cfg.lSmart = 22 := rfl
@[simp] theorem cfg_preDumb : cfg.preDumb = [false, true, false, true] := rfl
@[simp] theorem cfg_preSmart : cfg.preSmart = [true, false, true, false] := rfl
@[simp] theorem cfg_chkDumb : cfg.chkDumb = defaultChkDumb := rfl
@[simp] theorem cfg_chkSmart : cfg.chkSmart = defaultChkSmart := rfl
@[simp] theorem cfg_sync : cfg.sync = [⟨true, 4⟩, ⟨false, 4⟩] := rfl
@[simp] theorem cfg_sym0 : cfg.sym0 = [⟨true, 1⟩, ⟨false, 2⟩] := rfl
@[simp] theorem cfg_sym1 : cfg.sym1 = [⟨true, 2⟩, ⟨false, 1⟩] := rfl
@[simp] theorem cfg_pwrMax : cfg.pwrMax = 4 := rfl
@[simp] theorem cfg_fanDefault : cfg.fanDefault = .off := rfl
@[simp] theorem cfg_lightDefault : cfg.lightDefault = .level 0 := rfl

/-- The bound of the wait is at least 1 (00_scope.md R8). -/
theorem one_le_cfg_readyTimeout : 1 ≤ cfg.readyTimeout := by simp [cfg]

/-- `PWR <= PWR_MAX` of the instance (42_handshake.md R172). -/
theorem powerOk_some (p : BitVec 3) : powerOk cfg (some p) = true ↔ p.toNat ≤ 4 := decide_eq_true_iff

/-- A legal address is its low four bits (30_encoding.md R89). -/
theorem addressOfField_of_le {a : BitVec 8} (h : a.toNat ≤ 15) : addressOfField cfg a = some (a.setWidth 4) := if_pos h

/-- Addresses from 16 on are illegal (30_encoding.md R82). -/
theorem addressOfField_of_lt {a : BitVec 8} (h : 15 < a.toNat) : addressOfField cfg a = none := if_neg (Nat.not_le.2 h)

/-- Fan codes from 4 on are unsupported (30_encoding.md R84). -/
theorem fanOfField_of_lt {f : BitVec 3} (h : 3 < f.toNat) : fanOfField cfg f = none :=
  List.getElem?_eq_none (Nat.succ_le_of_lt h)

end Sys2Proof.Machine
end

