-- ==== Sys2Proof/Laws/Decode.lean ====
section
/-! SUPPORT. What the decoders can answer. -/

namespace Sys2Proof

theorem Decoded.instr?_eq_some {d : Decoded} {i : Instr} : d.instr? = some i ↔ d = .ok i := by
  cases d <;> simp [Decoded.instr?]

/-- A command word is one of the four operations (30_encoding.md R81). -/
theorem decodeCommand_ok {w : CommandWord} {i : Instr} (h : decodeCommand w = .ok i) :
    i = .select ∨ i = .close ∨ (∃ a f p, i = .txd a f p) ∨ (∃ a f l p, i = .txs a f l p) := by
  unfold decodeCommand decodeFields at h
  repeat' split at h
  all_goals first | (cases h; done) | (cases h; simp)

/-- What decodes to a packet is that packet's encoding: no bit is dropped. -/
theorem decodePacket_ok {c : Config} {b : Bits} {i : Instr} (h : decodePacket c b = .ok i) :
    (∃ a f, i = .pktDumb a f ∧ b = Machine.encodeDumb c a f) ∨
    (∃ a f l, i = .pktSmart a f l ∧ b = Machine.encodeSmart c a f l) := by
  unfold decodePacket at h
  split at h
  · split at h
    · split at h
      · cases h; exact .inl ⟨_, _, rfl, by assumption⟩
      · cases h
    · cases h
  · split at h
    · split at h
      · split at h
        · cases h; exact .inr ⟨_, _, _, rfl, by assumption⟩
        · cases h
      · cases h
    · cases h

end Sys2Proof
end

