-- ==== Sys2Proof/Laws/State.lean ====
section
/-! SUPPORT. One lemma per field per update of the state, each true by definition: no later proof unfolds an update. -/

namespace Sys2Proof.Machine

variable (s : State)

@[simp] theorem advance_fsm : (advance s).fsm = s.fsm := rfl
@[simp] theorem advance_pidx : (advance s).pidx = s.pidx := rfl
@[simp] theorem advance_dcnt : (advance s).dcnt = s.dcnt := rfl
@[simp] theorem advance_timer : (advance s).timer = s.timer := rfl
@[simp] theorem advance_en : (advance s).en = s.en := rfl
@[simp] theorem advance_tx : (advance s).tx = s.tx := rfl
@[simp] theorem advance_result : (advance s).result = s.result := rfl
@[simp] theorem advance_backend : (advance s).backend = s.backend := rfl
@[simp] theorem advance_warn : (advance s).warn = s.warn := rfl
@[simp] theorem advance_rej : (advance s).rej = s.rej := rfl
@[simp] theorem advance_closed : (advance s).closed = s.closed := rfl
@[simp] theorem advance_claim : (advance s).claim = s.claim := rfl
@[simp] theorem advance_lastFan : (advance s).lastFan = s.lastFan := rfl
@[simp] theorem advance_lastLight : (advance s).lastLight = s.lastLight := rfl
@[simp] theorem advance_pkt : (advance s).pkt = s.pkt := rfl
@[simp] theorem advance_pwrV : (advance s).pwrV = s.pwrV := rfl
@[simp] theorem advance_pwrL : (advance s).pwrL = s.pwrL := rfl
@[simp] theorem advance_pendSmart : (advance s).pendSmart = s.pendSmart := rfl
@[simp] theorem advance_pendFan : (advance s).pendFan = s.pendFan := rfl
@[simp] theorem advance_pendLight : (advance s).pendLight = s.pendLight := rfl
@[simp] theorem advance_env : (advance s).env = s.env.tail := rfl
@[simp] theorem advance_tick : (advance s).tick = s.tick + 1 := rfl

@[simp] theorem resetRegisters_fsm (c : Config) : (resetRegisters c s).fsm = (State.resetWith c).fsm := rfl
@[simp] theorem resetRegisters_pidx (c : Config) : (resetRegisters c s).pidx = (State.resetWith c).pidx := rfl
@[simp] theorem resetRegisters_dcnt (c : Config) : (resetRegisters c s).dcnt = (State.resetWith c).dcnt := rfl
@[simp] theorem resetRegisters_timer (c : Config) : (resetRegisters c s).timer = (State.resetWith c).timer := rfl
@[simp] theorem resetRegisters_en (c : Config) : (resetRegisters c s).en = (State.resetWith c).en := rfl
@[simp] theorem resetRegisters_tx (c : Config) : (resetRegisters c s).tx = (State.resetWith c).tx := rfl
@[simp] theorem resetRegisters_result (c : Config) : (resetRegisters c s).result = (State.resetWith c).result := rfl
@[simp] theorem resetRegisters_backend (c : Config) : (resetRegisters c s).backend = (State.resetWith c).backend := rfl
@[simp] theorem resetRegisters_warn (c : Config) : (resetRegisters c s).warn = (State.resetWith c).warn := rfl
@[simp] theorem resetRegisters_rej (c : Config) : (resetRegisters c s).rej = (State.resetWith c).rej := rfl
@[simp] theorem resetRegisters_closed (c : Config) : (resetRegisters c s).closed = (State.resetWith c).closed := rfl
@[simp] theorem resetRegisters_claim (c : Config) : (resetRegisters c s).claim = (State.resetWith c).claim := rfl
@[simp] theorem resetRegisters_lastFan (c : Config) : (resetRegisters c s).lastFan = (State.resetWith c).lastFan := rfl
@[simp] theorem resetRegisters_lastLight (c : Config) : (resetRegisters c s).lastLight = (State.resetWith c).lastLight := rfl
@[simp] theorem resetRegisters_pkt (c : Config) : (resetRegisters c s).pkt = (State.resetWith c).pkt := rfl
@[simp] theorem resetRegisters_pwrV (c : Config) : (resetRegisters c s).pwrV = (State.resetWith c).pwrV := rfl
@[simp] theorem resetRegisters_pwrL (c : Config) : (resetRegisters c s).pwrL = (State.resetWith c).pwrL := rfl
@[simp] theorem resetRegisters_pendSmart (c : Config) : (resetRegisters c s).pendSmart = (State.resetWith c).pendSmart := rfl
@[simp] theorem resetRegisters_pendFan (c : Config) : (resetRegisters c s).pendFan = (State.resetWith c).pendFan := rfl
@[simp] theorem resetRegisters_pendLight (c : Config) : (resetRegisters c s).pendLight = (State.resetWith c).pendLight := rfl
@[simp] theorem resetRegisters_env (c : Config) : (resetRegisters c s).env = s.env := rfl
@[simp] theorem resetRegisters_tick (c : Config) : (resetRegisters c s).tick = s.tick := rfl

@[simp] theorem raise_hardwareUnavailable_fsm : (raise .hardwareUnavailable s).fsm = s.fsm := rfl
@[simp] theorem raise_hardwareUnavailable_pidx : (raise .hardwareUnavailable s).pidx = s.pidx := rfl
@[simp] theorem raise_hardwareUnavailable_dcnt : (raise .hardwareUnavailable s).dcnt = s.dcnt := rfl
@[simp] theorem raise_hardwareUnavailable_timer : (raise .hardwareUnavailable s).timer = s.timer := rfl
@[simp] theorem raise_hardwareUnavailable_en : (raise .hardwareUnavailable s).en = s.en := rfl
@[simp] theorem raise_hardwareUnavailable_tx : (raise .hardwareUnavailable s).tx = s.tx := rfl
@[simp] theorem raise_hardwareUnavailable_result : (raise .hardwareUnavailable s).result = s.result := rfl
@[simp] theorem raise_hardwareUnavailable_backend : (raise .hardwareUnavailable s).backend = .dummy := rfl
@[simp] theorem raise_hardwareUnavailable_warn : (raise .hardwareUnavailable s).warn = true := rfl
@[simp] theorem raise_hardwareUnavailable_rej : (raise .hardwareUnavailable s).rej = s.rej := rfl
@[simp] theorem raise_hardwareUnavailable_closed : (raise .hardwareUnavailable s).closed = s.closed := rfl
@[simp] theorem raise_hardwareUnavailable_claim : (raise .hardwareUnavailable s).claim = false := rfl
@[simp] theorem raise_hardwareUnavailable_lastFan : (raise .hardwareUnavailable s).lastFan = s.lastFan := rfl
@[simp] theorem raise_hardwareUnavailable_lastLight : (raise .hardwareUnavailable s).lastLight = s.lastLight := rfl
@[simp] theorem raise_hardwareUnavailable_pkt : (raise .hardwareUnavailable s).pkt = s.pkt := rfl
@[simp] theorem raise_hardwareUnavailable_pwrV : (raise .hardwareUnavailable s).pwrV = s.pwrV := rfl
@[simp] theorem raise_hardwareUnavailable_pwrL : (raise .hardwareUnavailable s).pwrL = s.pwrL := rfl
@[simp] theorem raise_hardwareUnavailable_pendSmart : (raise .hardwareUnavailable s).pendSmart = s.pendSmart := rfl
@[simp] theorem raise_hardwareUnavailable_pendFan : (raise .hardwareUnavailable s).pendFan = s.pendFan := rfl
@[simp] theorem raise_hardwareUnavailable_pendLight : (raise .hardwareUnavailable s).pendLight = s.pendLight := rfl
@[simp] theorem raise_hardwareUnavailable_env : (raise .hardwareUnavailable s).env = s.env := rfl
@[simp] theorem raise_hardwareUnavailable_tick : (raise .hardwareUnavailable s).tick = s.tick := rfl

@[simp] theorem raise_invalidCommand_fsm : (raise .invalidCommand s).fsm = s.fsm := rfl
@[simp] theorem raise_invalidCommand_pidx : (raise .invalidCommand s).pidx = s.pidx := rfl
@[simp] theorem raise_invalidCommand_dcnt : (raise .invalidCommand s).dcnt = s.dcnt := rfl
@[simp] theorem raise_invalidCommand_timer : (raise .invalidCommand s).timer = s.timer := rfl
@[simp] theorem raise_invalidCommand_en : (raise .invalidCommand s).en = s.en := rfl
@[simp] theorem raise_invalidCommand_tx : (raise .invalidCommand s).tx = s.tx := rfl
@[simp] theorem raise_invalidCommand_result : (raise .invalidCommand s).result = .invalidCommand := rfl
@[simp] theorem raise_invalidCommand_backend : (raise .invalidCommand s).backend = s.backend := rfl
@[simp] theorem raise_invalidCommand_warn : (raise .invalidCommand s).warn = s.warn := rfl
@[simp] theorem raise_invalidCommand_rej : (raise .invalidCommand s).rej = s.rej := rfl
@[simp] theorem raise_invalidCommand_closed : (raise .invalidCommand s).closed = s.closed := rfl
@[simp] theorem raise_invalidCommand_claim : (raise .invalidCommand s).claim = s.claim := rfl
@[simp] theorem raise_invalidCommand_lastFan : (raise .invalidCommand s).lastFan = s.lastFan := rfl
@[simp] theorem raise_invalidCommand_lastLight : (raise .invalidCommand s).lastLight = s.lastLight := rfl
@[simp] theorem raise_invalidCommand_pkt : (raise .invalidCommand s).pkt = s.pkt := rfl
@[simp] theorem raise_invalidCommand_pwrV : (raise .invalidCommand s).pwrV = s.pwrV := rfl
@[simp] theorem raise_invalidCommand_pwrL : (raise .invalidCommand s).pwrL = s.pwrL := rfl
@[simp] theorem raise_invalidCommand_pendSmart : (raise .invalidCommand s).pendSmart = s.pendSmart := rfl
@[simp] theorem raise_invalidCommand_pendFan : (raise .invalidCommand s).pendFan = s.pendFan := rfl
@[simp] theorem raise_invalidCommand_pendLight : (raise .invalidCommand s).pendLight = s.pendLight := rfl
@[simp] theorem raise_invalidCommand_env : (raise .invalidCommand s).env = s.env := rfl
@[simp] theorem raise_invalidCommand_tick : (raise .invalidCommand s).tick = s.tick := rfl

@[simp] theorem raise_hardwareTimeout_fsm : (raise .hardwareTimeout s).fsm = .poweringDown := rfl
@[simp] theorem raise_hardwareTimeout_pidx : (raise .hardwareTimeout s).pidx = s.pidx := rfl
@[simp] theorem raise_hardwareTimeout_dcnt : (raise .hardwareTimeout s).dcnt = s.dcnt := rfl
@[simp] theorem raise_hardwareTimeout_timer : (raise .hardwareTimeout s).timer = s.timer := rfl
@[simp] theorem raise_hardwareTimeout_en : (raise .hardwareTimeout s).en = s.en := rfl
@[simp] theorem raise_hardwareTimeout_tx : (raise .hardwareTimeout s).tx = s.tx := rfl
@[simp] theorem raise_hardwareTimeout_result : (raise .hardwareTimeout s).result = .hardwareTimeout := rfl
@[simp] theorem raise_hardwareTimeout_backend : (raise .hardwareTimeout s).backend = s.backend := rfl
@[simp] theorem raise_hardwareTimeout_warn : (raise .hardwareTimeout s).warn = s.warn := rfl
@[simp] theorem raise_hardwareTimeout_rej : (raise .hardwareTimeout s).rej = s.rej := rfl
@[simp] theorem raise_hardwareTimeout_closed : (raise .hardwareTimeout s).closed = s.closed := rfl
@[simp] theorem raise_hardwareTimeout_claim : (raise .hardwareTimeout s).claim = s.claim := rfl
@[simp] theorem raise_hardwareTimeout_lastFan : (raise .hardwareTimeout s).lastFan = s.lastFan := rfl
@[simp] theorem raise_hardwareTimeout_lastLight : (raise .hardwareTimeout s).lastLight = s.lastLight := rfl
@[simp] theorem raise_hardwareTimeout_pkt : (raise .hardwareTimeout s).pkt = s.pkt := rfl
@[simp] theorem raise_hardwareTimeout_pwrV : (raise .hardwareTimeout s).pwrV = s.pwrV := rfl
@[simp] theorem raise_hardwareTimeout_pwrL : (raise .hardwareTimeout s).pwrL = s.pwrL := rfl
@[simp] theorem raise_hardwareTimeout_pendSmart : (raise .hardwareTimeout s).pendSmart = s.pendSmart := rfl
@[simp] theorem raise_hardwareTimeout_pendFan : (raise .hardwareTimeout s).pendFan = s.pendFan := rfl
@[simp] theorem raise_hardwareTimeout_pendLight : (raise .hardwareTimeout s).pendLight = s.pendLight := rfl
@[simp] theorem raise_hardwareTimeout_env : (raise .hardwareTimeout s).env = s.env := rfl
@[simp] theorem raise_hardwareTimeout_tick : (raise .hardwareTimeout s).tick = s.tick := rfl

@[simp] theorem raise_transmissionFailed_fsm : (raise .transmissionFailed s).fsm = .poweringDown := rfl
@[simp] theorem raise_transmissionFailed_pidx : (raise .transmissionFailed s).pidx = s.pidx := rfl
@[simp] theorem raise_transmissionFailed_dcnt : (raise .transmissionFailed s).dcnt = s.dcnt := rfl
@[simp] theorem raise_transmissionFailed_timer : (raise .transmissionFailed s).timer = s.timer := rfl
@[simp] theorem raise_transmissionFailed_en : (raise .transmissionFailed s).en = s.en := rfl
@[simp] theorem raise_transmissionFailed_tx : (raise .transmissionFailed s).tx = if s.fsm = .transmitting then false else s.tx := rfl
@[simp] theorem raise_transmissionFailed_result : (raise .transmissionFailed s).result = .transmissionFailed := rfl
@[simp] theorem raise_transmissionFailed_backend : (raise .transmissionFailed s).backend = s.backend := rfl
@[simp] theorem raise_transmissionFailed_warn : (raise .transmissionFailed s).warn = s.warn := rfl
@[simp] theorem raise_transmissionFailed_rej : (raise .transmissionFailed s).rej = s.rej := rfl
@[simp] theorem raise_transmissionFailed_closed : (raise .transmissionFailed s).closed = s.closed := rfl
@[simp] theorem raise_transmissionFailed_claim : (raise .transmissionFailed s).claim = s.claim := rfl
@[simp] theorem raise_transmissionFailed_lastFan : (raise .transmissionFailed s).lastFan = s.lastFan := rfl
@[simp] theorem raise_transmissionFailed_lastLight : (raise .transmissionFailed s).lastLight = s.lastLight := rfl
@[simp] theorem raise_transmissionFailed_pkt : (raise .transmissionFailed s).pkt = s.pkt := rfl
@[simp] theorem raise_transmissionFailed_pwrV : (raise .transmissionFailed s).pwrV = s.pwrV := rfl
@[simp] theorem raise_transmissionFailed_pwrL : (raise .transmissionFailed s).pwrL = s.pwrL := rfl
@[simp] theorem raise_transmissionFailed_pendSmart : (raise .transmissionFailed s).pendSmart = s.pendSmart := rfl
@[simp] theorem raise_transmissionFailed_pendFan : (raise .transmissionFailed s).pendFan = s.pendFan := rfl
@[simp] theorem raise_transmissionFailed_pendLight : (raise .transmissionFailed s).pendLight = s.pendLight := rfl
@[simp] theorem raise_transmissionFailed_env : (raise .transmissionFailed s).env = s.env := rfl
@[simp] theorem raise_transmissionFailed_tick : (raise .transmissionFailed s).tick = s.tick := rfl

@[simp] theorem releaseLines_fsm : (releaseLines s).fsm = .idle := rfl
@[simp] theorem releaseLines_pidx : (releaseLines s).pidx = s.pidx := rfl
@[simp] theorem releaseLines_dcnt : (releaseLines s).dcnt = s.dcnt := rfl
@[simp] theorem releaseLines_timer : (releaseLines s).timer = s.timer := rfl
@[simp] theorem releaseLines_en : (releaseLines s).en = false := rfl
@[simp] theorem releaseLines_tx : (releaseLines s).tx = false := rfl
@[simp] theorem releaseLines_result : (releaseLines s).result = s.result := rfl
@[simp] theorem releaseLines_backend : (releaseLines s).backend = s.backend := rfl
@[simp] theorem releaseLines_warn : (releaseLines s).warn = s.warn := rfl
@[simp] theorem releaseLines_rej : (releaseLines s).rej = s.rej := rfl
@[simp] theorem releaseLines_closed : (releaseLines s).closed = s.closed := rfl
@[simp] theorem releaseLines_claim : (releaseLines s).claim = s.claim := rfl
@[simp] theorem releaseLines_lastFan : (releaseLines s).lastFan = s.lastFan := rfl
@[simp] theorem releaseLines_lastLight : (releaseLines s).lastLight = s.lastLight := rfl
@[simp] theorem releaseLines_pkt : (releaseLines s).pkt = s.pkt := rfl
@[simp] theorem releaseLines_pwrV : (releaseLines s).pwrV = s.pwrV := rfl
@[simp] theorem releaseLines_pwrL : (releaseLines s).pwrL = s.pwrL := rfl
@[simp] theorem releaseLines_pendSmart : (releaseLines s).pendSmart = s.pendSmart := rfl
@[simp] theorem releaseLines_pendFan : (releaseLines s).pendFan = s.pendFan := rfl
@[simp] theorem releaseLines_pendLight : (releaseLines s).pendLight = s.pendLight := rfl
@[simp] theorem releaseLines_env : (releaseLines s).env = s.env := rfl
@[simp] theorem releaseLines_tick : (releaseLines s).tick = s.tick := rfl

@[simp] theorem commitLast_fsm (b : Bool) (f : FanCommand) (l : LightCommand) : (commitLast b f l s).fsm = s.fsm := rfl
@[simp] theorem commitLast_pidx (b : Bool) (f : FanCommand) (l : LightCommand) : (commitLast b f l s).pidx = s.pidx := rfl
@[simp] theorem commitLast_dcnt (b : Bool) (f : FanCommand) (l : LightCommand) : (commitLast b f l s).dcnt = s.dcnt := rfl
@[simp] theorem commitLast_timer (b : Bool) (f : FanCommand) (l : LightCommand) : (commitLast b f l s).timer = s.timer := rfl
@[simp] theorem commitLast_en (b : Bool) (f : FanCommand) (l : LightCommand) : (commitLast b f l s).en = s.en := rfl
@[simp] theorem commitLast_tx (b : Bool) (f : FanCommand) (l : LightCommand) : (commitLast b f l s).tx = s.tx := rfl
@[simp] theorem commitLast_result (b : Bool) (f : FanCommand) (l : LightCommand) : (commitLast b f l s).result = s.result := rfl
@[simp] theorem commitLast_backend (b : Bool) (f : FanCommand) (l : LightCommand) : (commitLast b f l s).backend = s.backend := rfl
@[simp] theorem commitLast_warn (b : Bool) (f : FanCommand) (l : LightCommand) : (commitLast b f l s).warn = s.warn := rfl
@[simp] theorem commitLast_rej (b : Bool) (f : FanCommand) (l : LightCommand) : (commitLast b f l s).rej = s.rej := rfl
@[simp] theorem commitLast_closed (b : Bool) (f : FanCommand) (l : LightCommand) : (commitLast b f l s).closed = s.closed := rfl
@[simp] theorem commitLast_claim (b : Bool) (f : FanCommand) (l : LightCommand) : (commitLast b f l s).claim = s.claim := rfl
@[simp] theorem commitLast_lastFan (b : Bool) (f : FanCommand) (l : LightCommand) : (commitLast b f l s).lastFan = if b then f else s.lastFan := rfl
@[simp] theorem commitLast_lastLight (b : Bool) (f : FanCommand) (l : LightCommand) : (commitLast b f l s).lastLight = if b then l else s.lastLight := rfl
@[simp] theorem commitLast_pkt (b : Bool) (f : FanCommand) (l : LightCommand) : (commitLast b f l s).pkt = s.pkt := rfl
@[simp] theorem commitLast_pwrV (b : Bool) (f : FanCommand) (l : LightCommand) : (commitLast b f l s).pwrV = s.pwrV := rfl
@[simp] theorem commitLast_pwrL (b : Bool) (f : FanCommand) (l : LightCommand) : (commitLast b f l s).pwrL = s.pwrL := rfl
@[simp] theorem commitLast_pendSmart (b : Bool) (f : FanCommand) (l : LightCommand) : (commitLast b f l s).pendSmart = s.pendSmart := rfl
@[simp] theorem commitLast_pendFan (b : Bool) (f : FanCommand) (l : LightCommand) : (commitLast b f l s).pendFan = s.pendFan := rfl
@[simp] theorem commitLast_pendLight (b : Bool) (f : FanCommand) (l : LightCommand) : (commitLast b f l s).pendLight = s.pendLight := rfl
@[simp] theorem commitLast_env (b : Bool) (f : FanCommand) (l : LightCommand) : (commitLast b f l s).env = s.env := rfl
@[simp] theorem commitLast_tick (b : Bool) (f : FanCommand) (l : LightCommand) : (commitLast b f l s).tick = s.tick := rfl

@[simp] theorem succeed_fsm : (succeed s).fsm = s.fsm := rfl
@[simp] theorem succeed_pidx : (succeed s).pidx = s.pidx := rfl
@[simp] theorem succeed_dcnt : (succeed s).dcnt = s.dcnt := rfl
@[simp] theorem succeed_timer : (succeed s).timer = s.timer := rfl
@[simp] theorem succeed_en : (succeed s).en = s.en := rfl
@[simp] theorem succeed_tx : (succeed s).tx = s.tx := rfl
@[simp] theorem succeed_result : (succeed s).result = .ok := rfl
@[simp] theorem succeed_backend : (succeed s).backend = s.backend := rfl
@[simp] theorem succeed_warn : (succeed s).warn = s.warn := rfl
@[simp] theorem succeed_rej : (succeed s).rej = s.rej := rfl
@[simp] theorem succeed_closed : (succeed s).closed = s.closed := rfl
@[simp] theorem succeed_claim : (succeed s).claim = s.claim := rfl
@[simp] theorem succeed_lastFan : (succeed s).lastFan = s.lastFan := rfl
@[simp] theorem succeed_lastLight : (succeed s).lastLight = s.lastLight := rfl
@[simp] theorem succeed_pkt : (succeed s).pkt = s.pkt := rfl
@[simp] theorem succeed_pwrV : (succeed s).pwrV = s.pwrV := rfl
@[simp] theorem succeed_pwrL : (succeed s).pwrL = s.pwrL := rfl
@[simp] theorem succeed_pendSmart : (succeed s).pendSmart = s.pendSmart := rfl
@[simp] theorem succeed_pendFan : (succeed s).pendFan = s.pendFan := rfl
@[simp] theorem succeed_pendLight : (succeed s).pendLight = s.pendLight := rfl
@[simp] theorem succeed_env : (succeed s).env = s.env := rfl
@[simp] theorem succeed_tick : (succeed s).tick = s.tick := rfl

@[simp] theorem reject_fsm : (reject s).fsm = s.fsm := rfl
@[simp] theorem reject_pidx : (reject s).pidx = s.pidx := rfl
@[simp] theorem reject_dcnt : (reject s).dcnt = s.dcnt := rfl
@[simp] theorem reject_timer : (reject s).timer = s.timer := rfl
@[simp] theorem reject_en : (reject s).en = s.en := rfl
@[simp] theorem reject_tx : (reject s).tx = s.tx := rfl
@[simp] theorem reject_result : (reject s).result = s.result := rfl
@[simp] theorem reject_backend : (reject s).backend = s.backend := rfl
@[simp] theorem reject_warn : (reject s).warn = s.warn := rfl
@[simp] theorem reject_rej : (reject s).rej = true := rfl
@[simp] theorem reject_closed : (reject s).closed = s.closed := rfl
@[simp] theorem reject_claim : (reject s).claim = s.claim := rfl
@[simp] theorem reject_lastFan : (reject s).lastFan = s.lastFan := rfl
@[simp] theorem reject_lastLight : (reject s).lastLight = s.lastLight := rfl
@[simp] theorem reject_pkt : (reject s).pkt = s.pkt := rfl
@[simp] theorem reject_pwrV : (reject s).pwrV = s.pwrV := rfl
@[simp] theorem reject_pwrL : (reject s).pwrL = s.pwrL := rfl
@[simp] theorem reject_pendSmart : (reject s).pendSmart = s.pendSmart := rfl
@[simp] theorem reject_pendFan : (reject s).pendFan = s.pendFan := rfl
@[simp] theorem reject_pendLight : (reject s).pendLight = s.pendLight := rfl
@[simp] theorem reject_env : (reject s).env = s.env := rfl
@[simp] theorem reject_tick : (reject s).tick = s.tick := rfl

@[simp] theorem claimHardware_fsm : (claimHardware s).fsm = s.fsm := rfl
@[simp] theorem claimHardware_pidx : (claimHardware s).pidx = s.pidx := rfl
@[simp] theorem claimHardware_dcnt : (claimHardware s).dcnt = s.dcnt := rfl
@[simp] theorem claimHardware_timer : (claimHardware s).timer = s.timer := rfl
@[simp] theorem claimHardware_en : (claimHardware s).en = s.en := rfl
@[simp] theorem claimHardware_tx : (claimHardware s).tx = s.tx := rfl
@[simp] theorem claimHardware_result : (claimHardware s).result = s.result := rfl
@[simp] theorem claimHardware_backend : (claimHardware s).backend = .hardware := rfl
@[simp] theorem claimHardware_warn : (claimHardware s).warn = s.warn := rfl
@[simp] theorem claimHardware_rej : (claimHardware s).rej = s.rej := rfl
@[simp] theorem claimHardware_closed : (claimHardware s).closed = s.closed := rfl
@[simp] theorem claimHardware_claim : (claimHardware s).claim = true := rfl
@[simp] theorem claimHardware_lastFan : (claimHardware s).lastFan = s.lastFan := rfl
@[simp] theorem claimHardware_lastLight : (claimHardware s).lastLight = s.lastLight := rfl
@[simp] theorem claimHardware_pkt : (claimHardware s).pkt = s.pkt := rfl
@[simp] theorem claimHardware_pwrV : (claimHardware s).pwrV = s.pwrV := rfl
@[simp] theorem claimHardware_pwrL : (claimHardware s).pwrL = s.pwrL := rfl
@[simp] theorem claimHardware_pendSmart : (claimHardware s).pendSmart = s.pendSmart := rfl
@[simp] theorem claimHardware_pendFan : (claimHardware s).pendFan = s.pendFan := rfl
@[simp] theorem claimHardware_pendLight : (claimHardware s).pendLight = s.pendLight := rfl
@[simp] theorem claimHardware_env : (claimHardware s).env = s.env := rfl
@[simp] theorem claimHardware_tick : (claimHardware s).tick = s.tick := rfl

@[simp] theorem releaseHandles_fsm : (releaseHandles s).fsm = s.fsm := rfl
@[simp] theorem releaseHandles_pidx : (releaseHandles s).pidx = s.pidx := rfl
@[simp] theorem releaseHandles_dcnt : (releaseHandles s).dcnt = s.dcnt := rfl
@[simp] theorem releaseHandles_timer : (releaseHandles s).timer = s.timer := rfl
@[simp] theorem releaseHandles_en : (releaseHandles s).en = s.en := rfl
@[simp] theorem releaseHandles_tx : (releaseHandles s).tx = s.tx := rfl
@[simp] theorem releaseHandles_result : (releaseHandles s).result = s.result := rfl
@[simp] theorem releaseHandles_backend : (releaseHandles s).backend = s.backend := rfl
@[simp] theorem releaseHandles_warn : (releaseHandles s).warn = s.warn := rfl
@[simp] theorem releaseHandles_rej : (releaseHandles s).rej = s.rej := rfl
@[simp] theorem releaseHandles_closed : (releaseHandles s).closed = true := rfl
@[simp] theorem releaseHandles_claim : (releaseHandles s).claim = false := rfl
@[simp] theorem releaseHandles_lastFan : (releaseHandles s).lastFan = s.lastFan := rfl
@[simp] theorem releaseHandles_lastLight : (releaseHandles s).lastLight = s.lastLight := rfl
@[simp] theorem releaseHandles_pkt : (releaseHandles s).pkt = s.pkt := rfl
@[simp] theorem releaseHandles_pwrV : (releaseHandles s).pwrV = s.pwrV := rfl
@[simp] theorem releaseHandles_pwrL : (releaseHandles s).pwrL = s.pwrL := rfl
@[simp] theorem releaseHandles_pendSmart : (releaseHandles s).pendSmart = s.pendSmart := rfl
@[simp] theorem releaseHandles_pendFan : (releaseHandles s).pendFan = s.pendFan := rfl
@[simp] theorem releaseHandles_pendLight : (releaseHandles s).pendLight = s.pendLight := rfl
@[simp] theorem releaseHandles_env : (releaseHandles s).env = s.env := rfl
@[simp] theorem releaseHandles_tick : (releaseHandles s).tick = s.tick := rfl

@[simp] theorem beginTransmission_fsm (b : Bits) (m : Bool) (f : FanCommand) (l : LightCommand) (p : Option (BitVec 3)) : (beginTransmission b m f l p s).fsm = .poweringUp := rfl
@[simp] theorem beginTransmission_pidx (b : Bits) (m : Bool) (f : FanCommand) (l : LightCommand) (p : Option (BitVec 3)) : (beginTransmission b m f l p s).pidx = s.pidx := rfl
@[simp] theorem beginTransmission_dcnt (b : Bits) (m : Bool) (f : FanCommand) (l : LightCommand) (p : Option (BitVec 3)) : (beginTransmission b m f l p s).dcnt = s.dcnt := rfl
@[simp] theorem beginTransmission_timer (b : Bits) (m : Bool) (f : FanCommand) (l : LightCommand) (p : Option (BitVec 3)) : (beginTransmission b m f l p s).timer = s.timer := rfl
@[simp] theorem beginTransmission_en (b : Bits) (m : Bool) (f : FanCommand) (l : LightCommand) (p : Option (BitVec 3)) : (beginTransmission b m f l p s).en = s.en := rfl
@[simp] theorem beginTransmission_tx (b : Bits) (m : Bool) (f : FanCommand) (l : LightCommand) (p : Option (BitVec 3)) : (beginTransmission b m f l p s).tx = s.tx := rfl
@[simp] theorem beginTransmission_result (b : Bits) (m : Bool) (f : FanCommand) (l : LightCommand) (p : Option (BitVec 3)) : (beginTransmission b m f l p s).result = .none := rfl
@[simp] theorem beginTransmission_backend (b : Bits) (m : Bool) (f : FanCommand) (l : LightCommand) (p : Option (BitVec 3)) : (beginTransmission b m f l p s).backend = s.backend := rfl
@[simp] theorem beginTransmission_warn (b : Bits) (m : Bool) (f : FanCommand) (l : LightCommand) (p : Option (BitVec 3)) : (beginTransmission b m f l p s).warn = s.warn := rfl
@[simp] theorem beginTransmission_rej (b : Bits) (m : Bool) (f : FanCommand) (l : LightCommand) (p : Option (BitVec 3)) : (beginTransmission b m f l p s).rej = s.rej := rfl
@[simp] theorem beginTransmission_closed (b : Bits) (m : Bool) (f : FanCommand) (l : LightCommand) (p : Option (BitVec 3)) : (beginTransmission b m f l p s).closed = s.closed := rfl
@[simp] theorem beginTransmission_claim (b : Bits) (m : Bool) (f : FanCommand) (l : LightCommand) (p : Option (BitVec 3)) : (beginTransmission b m f l p s).claim = s.claim := rfl
@[simp] theorem beginTransmission_lastFan (b : Bits) (m : Bool) (f : FanCommand) (l : LightCommand) (p : Option (BitVec 3)) : (beginTransmission b m f l p s).lastFan = s.lastFan := rfl
@[simp] theorem beginTransmission_lastLight (b : Bits) (m : Bool) (f : FanCommand) (l : LightCommand) (p : Option (BitVec 3)) : (beginTransmission b m f l p s).lastLight = s.lastLight := rfl
@[simp] theorem beginTransmission_pkt (b : Bits) (m : Bool) (f : FanCommand) (l : LightCommand) (p : Option (BitVec 3)) : (beginTransmission b m f l p s).pkt = b := rfl
@[simp] theorem beginTransmission_pwrV (b : Bits) (m : Bool) (f : FanCommand) (l : LightCommand) (p : Option (BitVec 3)) : (beginTransmission b m f l p s).pwrV = p.isSome := rfl
@[simp] theorem beginTransmission_pwrL (b : Bits) (m : Bool) (f : FanCommand) (l : LightCommand) (p : Option (BitVec 3)) : (beginTransmission b m f l p s).pwrL = p.getD (Config.freePowerLevel s.tick) := rfl
@[simp] theorem beginTransmission_pendSmart (b : Bits) (m : Bool) (f : FanCommand) (l : LightCommand) (p : Option (BitVec 3)) : (beginTransmission b m f l p s).pendSmart = m := rfl
@[simp] theorem beginTransmission_pendFan (b : Bits) (m : Bool) (f : FanCommand) (l : LightCommand) (p : Option (BitVec 3)) : (beginTransmission b m f l p s).pendFan = f := rfl
@[simp] theorem beginTransmission_pendLight (b : Bits) (m : Bool) (f : FanCommand) (l : LightCommand) (p : Option (BitVec 3)) : (beginTransmission b m f l p s).pendLight = l := rfl
@[simp] theorem beginTransmission_env (b : Bits) (m : Bool) (f : FanCommand) (l : LightCommand) (p : Option (BitVec 3)) : (beginTransmission b m f l p s).env = s.env := rfl
@[simp] theorem beginTransmission_tick (b : Bits) (m : Bool) (f : FanCommand) (l : LightCommand) (p : Option (BitVec 3)) : (beginTransmission b m f l p s).tick = s.tick := rfl

@[simp] theorem assertEnable_fsm : (assertEnable s).fsm = s.fsm := rfl
@[simp] theorem assertEnable_pidx : (assertEnable s).pidx = s.pidx := rfl
@[simp] theorem assertEnable_dcnt : (assertEnable s).dcnt = s.dcnt := rfl
@[simp] theorem assertEnable_timer : (assertEnable s).timer = s.timer := rfl
@[simp] theorem assertEnable_en : (assertEnable s).en = true := rfl
@[simp] theorem assertEnable_tx : (assertEnable s).tx = s.tx := rfl
@[simp] theorem assertEnable_result : (assertEnable s).result = s.result := rfl
@[simp] theorem assertEnable_backend : (assertEnable s).backend = s.backend := rfl
@[simp] theorem assertEnable_warn : (assertEnable s).warn = s.warn := rfl
@[simp] theorem assertEnable_rej : (assertEnable s).rej = s.rej := rfl
@[simp] theorem assertEnable_closed : (assertEnable s).closed = s.closed := rfl
@[simp] theorem assertEnable_claim : (assertEnable s).claim = s.claim := rfl
@[simp] theorem assertEnable_lastFan : (assertEnable s).lastFan = s.lastFan := rfl
@[simp] theorem assertEnable_lastLight : (assertEnable s).lastLight = s.lastLight := rfl
@[simp] theorem assertEnable_pkt : (assertEnable s).pkt = s.pkt := rfl
@[simp] theorem assertEnable_pwrV : (assertEnable s).pwrV = s.pwrV := rfl
@[simp] theorem assertEnable_pwrL : (assertEnable s).pwrL = s.pwrL := rfl
@[simp] theorem assertEnable_pendSmart : (assertEnable s).pendSmart = s.pendSmart := rfl
@[simp] theorem assertEnable_pendFan : (assertEnable s).pendFan = s.pendFan := rfl
@[simp] theorem assertEnable_pendLight : (assertEnable s).pendLight = s.pendLight := rfl
@[simp] theorem assertEnable_env : (assertEnable s).env = s.env := rfl
@[simp] theorem assertEnable_tick : (assertEnable s).tick = s.tick := rfl

@[simp] theorem startWait_fsm : (startWait s).fsm = .awaitingReady := rfl
@[simp] theorem startWait_pidx : (startWait s).pidx = s.pidx := rfl
@[simp] theorem startWait_dcnt : (startWait s).dcnt = s.dcnt := rfl
@[simp] theorem startWait_timer : (startWait s).timer = 0 := rfl
@[simp] theorem startWait_en : (startWait s).en = s.en := rfl
@[simp] theorem startWait_tx : (startWait s).tx = s.tx := rfl
@[simp] theorem startWait_result : (startWait s).result = s.result := rfl
@[simp] theorem startWait_backend : (startWait s).backend = s.backend := rfl
@[simp] theorem startWait_warn : (startWait s).warn = s.warn := rfl
@[simp] theorem startWait_rej : (startWait s).rej = s.rej := rfl
@[simp] theorem startWait_closed : (startWait s).closed = s.closed := rfl
@[simp] theorem startWait_claim : (startWait s).claim = s.claim := rfl
@[simp] theorem startWait_lastFan : (startWait s).lastFan = s.lastFan := rfl
@[simp] theorem startWait_lastLight : (startWait s).lastLight = s.lastLight := rfl
@[simp] theorem startWait_pkt : (startWait s).pkt = s.pkt := rfl
@[simp] theorem startWait_pwrV : (startWait s).pwrV = s.pwrV := rfl
@[simp] theorem startWait_pwrL : (startWait s).pwrL = s.pwrL := rfl
@[simp] theorem startWait_pendSmart : (startWait s).pendSmart = s.pendSmart := rfl
@[simp] theorem startWait_pendFan : (startWait s).pendFan = s.pendFan := rfl
@[simp] theorem startWait_pendLight : (startWait s).pendLight = s.pendLight := rfl
@[simp] theorem startWait_env : (startWait s).env = s.env := rfl
@[simp] theorem startWait_tick : (startWait s).tick = s.tick := rfl

@[simp] theorem countSample_fsm : (countSample s).fsm = s.fsm := rfl
@[simp] theorem countSample_pidx : (countSample s).pidx = s.pidx := rfl
@[simp] theorem countSample_dcnt : (countSample s).dcnt = s.dcnt := rfl
@[simp] theorem countSample_timer : (countSample s).timer = s.timer + 1 := rfl
@[simp] theorem countSample_en : (countSample s).en = s.en := rfl
@[simp] theorem countSample_tx : (countSample s).tx = s.tx := rfl
@[simp] theorem countSample_result : (countSample s).result = s.result := rfl
@[simp] theorem countSample_backend : (countSample s).backend = s.backend := rfl
@[simp] theorem countSample_warn : (countSample s).warn = s.warn := rfl
@[simp] theorem countSample_rej : (countSample s).rej = s.rej := rfl
@[simp] theorem countSample_closed : (countSample s).closed = s.closed := rfl
@[simp] theorem countSample_claim : (countSample s).claim = s.claim := rfl
@[simp] theorem countSample_lastFan : (countSample s).lastFan = s.lastFan := rfl
@[simp] theorem countSample_lastLight : (countSample s).lastLight = s.lastLight := rfl
@[simp] theorem countSample_pkt : (countSample s).pkt = s.pkt := rfl
@[simp] theorem countSample_pwrV : (countSample s).pwrV = s.pwrV := rfl
@[simp] theorem countSample_pwrL : (countSample s).pwrL = s.pwrL := rfl
@[simp] theorem countSample_pendSmart : (countSample s).pendSmart = s.pendSmart := rfl
@[simp] theorem countSample_pendFan : (countSample s).pendFan = s.pendFan := rfl
@[simp] theorem countSample_pendLight : (countSample s).pendLight = s.pendLight := rfl
@[simp] theorem countSample_env : (countSample s).env = s.env := rfl
@[simp] theorem countSample_tick : (countSample s).tick = s.tick := rfl

@[simp] theorem startBurst_fsm (d : Nat) : (startBurst d s).fsm = .transmitting := rfl
@[simp] theorem startBurst_pidx (d : Nat) : (startBurst d s).pidx = 0 := rfl
@[simp] theorem startBurst_dcnt (d : Nat) : (startBurst d s).dcnt = d := rfl
@[simp] theorem startBurst_timer (d : Nat) : (startBurst d s).timer = s.timer := rfl
@[simp] theorem startBurst_en (d : Nat) : (startBurst d s).en = s.en := rfl
@[simp] theorem startBurst_tx (d : Nat) : (startBurst d s).tx = s.tx := rfl
@[simp] theorem startBurst_result (d : Nat) : (startBurst d s).result = s.result := rfl
@[simp] theorem startBurst_backend (d : Nat) : (startBurst d s).backend = s.backend := rfl
@[simp] theorem startBurst_warn (d : Nat) : (startBurst d s).warn = s.warn := rfl
@[simp] theorem startBurst_rej (d : Nat) : (startBurst d s).rej = s.rej := rfl
@[simp] theorem startBurst_closed (d : Nat) : (startBurst d s).closed = s.closed := rfl
@[simp] theorem startBurst_claim (d : Nat) : (startBurst d s).claim = s.claim := rfl
@[simp] theorem startBurst_lastFan (d : Nat) : (startBurst d s).lastFan = s.lastFan := rfl
@[simp] theorem startBurst_lastLight (d : Nat) : (startBurst d s).lastLight = s.lastLight := rfl
@[simp] theorem startBurst_pkt (d : Nat) : (startBurst d s).pkt = s.pkt := rfl
@[simp] theorem startBurst_pwrV (d : Nat) : (startBurst d s).pwrV = s.pwrV := rfl
@[simp] theorem startBurst_pwrL (d : Nat) : (startBurst d s).pwrL = s.pwrL := rfl
@[simp] theorem startBurst_pendSmart (d : Nat) : (startBurst d s).pendSmart = s.pendSmart := rfl
@[simp] theorem startBurst_pendFan (d : Nat) : (startBurst d s).pendFan = s.pendFan := rfl
@[simp] theorem startBurst_pendLight (d : Nat) : (startBurst d s).pendLight = s.pendLight := rfl
@[simp] theorem startBurst_env (d : Nat) : (startBurst d s).env = s.env := rfl
@[simp] theorem startBurst_tick (d : Nat) : (startBurst d s).tick = s.tick := rfl

@[simp] theorem emit_fsm (v : Bool) : (emit v s).fsm = s.fsm := rfl
@[simp] theorem emit_pidx (v : Bool) : (emit v s).pidx = s.pidx := rfl
@[simp] theorem emit_dcnt (v : Bool) : (emit v s).dcnt = s.dcnt := rfl
@[simp] theorem emit_timer (v : Bool) : (emit v s).timer = s.timer := rfl
@[simp] theorem emit_en (v : Bool) : (emit v s).en = s.en := rfl
@[simp] theorem emit_tx (v : Bool) : (emit v s).tx = v := rfl
@[simp] theorem emit_result (v : Bool) : (emit v s).result = s.result := rfl
@[simp] theorem emit_backend (v : Bool) : (emit v s).backend = s.backend := rfl
@[simp] theorem emit_warn (v : Bool) : (emit v s).warn = s.warn := rfl
@[simp] theorem emit_rej (v : Bool) : (emit v s).rej = s.rej := rfl
@[simp] theorem emit_closed (v : Bool) : (emit v s).closed = s.closed := rfl
@[simp] theorem emit_claim (v : Bool) : (emit v s).claim = s.claim := rfl
@[simp] theorem emit_lastFan (v : Bool) : (emit v s).lastFan = s.lastFan := rfl
@[simp] theorem emit_lastLight (v : Bool) : (emit v s).lastLight = s.lastLight := rfl
@[simp] theorem emit_pkt (v : Bool) : (emit v s).pkt = s.pkt := rfl
@[simp] theorem emit_pwrV (v : Bool) : (emit v s).pwrV = s.pwrV := rfl
@[simp] theorem emit_pwrL (v : Bool) : (emit v s).pwrL = s.pwrL := rfl
@[simp] theorem emit_pendSmart (v : Bool) : (emit v s).pendSmart = s.pendSmart := rfl
@[simp] theorem emit_pendFan (v : Bool) : (emit v s).pendFan = s.pendFan := rfl
@[simp] theorem emit_pendLight (v : Bool) : (emit v s).pendLight = s.pendLight := rfl
@[simp] theorem emit_env (v : Bool) : (emit v s).env = s.env := rfl
@[simp] theorem emit_tick (v : Bool) : (emit v s).tick = s.tick := rfl

@[simp] theorem countTick_fsm : (countTick s).fsm = s.fsm := rfl
@[simp] theorem countTick_pidx : (countTick s).pidx = s.pidx := rfl
@[simp] theorem countTick_dcnt : (countTick s).dcnt = s.dcnt - 1 := rfl
@[simp] theorem countTick_timer : (countTick s).timer = s.timer := rfl
@[simp] theorem countTick_en : (countTick s).en = s.en := rfl
@[simp] theorem countTick_tx : (countTick s).tx = s.tx := rfl
@[simp] theorem countTick_result : (countTick s).result = s.result := rfl
@[simp] theorem countTick_backend : (countTick s).backend = s.backend := rfl
@[simp] theorem countTick_warn : (countTick s).warn = s.warn := rfl
@[simp] theorem countTick_rej : (countTick s).rej = s.rej := rfl
@[simp] theorem countTick_closed : (countTick s).closed = s.closed := rfl
@[simp] theorem countTick_claim : (countTick s).claim = s.claim := rfl
@[simp] theorem countTick_lastFan : (countTick s).lastFan = s.lastFan := rfl
@[simp] theorem countTick_lastLight : (countTick s).lastLight = s.lastLight := rfl
@[simp] theorem countTick_pkt : (countTick s).pkt = s.pkt := rfl
@[simp] theorem countTick_pwrV : (countTick s).pwrV = s.pwrV := rfl
@[simp] theorem countTick_pwrL : (countTick s).pwrL = s.pwrL := rfl
@[simp] theorem countTick_pendSmart : (countTick s).pendSmart = s.pendSmart := rfl
@[simp] theorem countTick_pendFan : (countTick s).pendFan = s.pendFan := rfl
@[simp] theorem countTick_pendLight : (countTick s).pendLight = s.pendLight := rfl
@[simp] theorem countTick_env : (countTick s).env = s.env := rfl
@[simp] theorem countTick_tick : (countTick s).tick = s.tick := rfl

@[simp] theorem nextPulse_fsm (d : Nat) : (nextPulse d s).fsm = s.fsm := rfl
@[simp] theorem nextPulse_pidx (d : Nat) : (nextPulse d s).pidx = s.pidx + 1 := rfl
@[simp] theorem nextPulse_dcnt (d : Nat) : (nextPulse d s).dcnt = d := rfl
@[simp] theorem nextPulse_timer (d : Nat) : (nextPulse d s).timer = s.timer := rfl
@[simp] theorem nextPulse_en (d : Nat) : (nextPulse d s).en = s.en := rfl
@[simp] theorem nextPulse_tx (d : Nat) : (nextPulse d s).tx = s.tx := rfl
@[simp] theorem nextPulse_result (d : Nat) : (nextPulse d s).result = s.result := rfl
@[simp] theorem nextPulse_backend (d : Nat) : (nextPulse d s).backend = s.backend := rfl
@[simp] theorem nextPulse_warn (d : Nat) : (nextPulse d s).warn = s.warn := rfl
@[simp] theorem nextPulse_rej (d : Nat) : (nextPulse d s).rej = s.rej := rfl
@[simp] theorem nextPulse_closed (d : Nat) : (nextPulse d s).closed = s.closed := rfl
@[simp] theorem nextPulse_claim (d : Nat) : (nextPulse d s).claim = s.claim := rfl
@[simp] theorem nextPulse_lastFan (d : Nat) : (nextPulse d s).lastFan = s.lastFan := rfl
@[simp] theorem nextPulse_lastLight (d : Nat) : (nextPulse d s).lastLight = s.lastLight := rfl
@[simp] theorem nextPulse_pkt (d : Nat) : (nextPulse d s).pkt = s.pkt := rfl
@[simp] theorem nextPulse_pwrV (d : Nat) : (nextPulse d s).pwrV = s.pwrV := rfl
@[simp] theorem nextPulse_pwrL (d : Nat) : (nextPulse d s).pwrL = s.pwrL := rfl
@[simp] theorem nextPulse_pendSmart (d : Nat) : (nextPulse d s).pendSmart = s.pendSmart := rfl
@[simp] theorem nextPulse_pendFan (d : Nat) : (nextPulse d s).pendFan = s.pendFan := rfl
@[simp] theorem nextPulse_pendLight (d : Nat) : (nextPulse d s).pendLight = s.pendLight := rfl
@[simp] theorem nextPulse_env (d : Nat) : (nextPulse d s).env = s.env := rfl
@[simp] theorem nextPulse_tick (d : Nat) : (nextPulse d s).tick = s.tick := rfl

@[simp] theorem endBurst_fsm : (endBurst s).fsm = .poweringDown := rfl
@[simp] theorem endBurst_pidx : (endBurst s).pidx = s.pidx + 1 := rfl
@[simp] theorem endBurst_dcnt : (endBurst s).dcnt = 0 := rfl
@[simp] theorem endBurst_timer : (endBurst s).timer = s.timer := rfl
@[simp] theorem endBurst_en : (endBurst s).en = s.en := rfl
@[simp] theorem endBurst_tx : (endBurst s).tx = s.tx := rfl
@[simp] theorem endBurst_result : (endBurst s).result = s.result := rfl
@[simp] theorem endBurst_backend : (endBurst s).backend = s.backend := rfl
@[simp] theorem endBurst_warn : (endBurst s).warn = s.warn := rfl
@[simp] theorem endBurst_rej : (endBurst s).rej = s.rej := rfl
@[simp] theorem endBurst_closed : (endBurst s).closed = s.closed := rfl
@[simp] theorem endBurst_claim : (endBurst s).claim = s.claim := rfl
@[simp] theorem endBurst_lastFan : (endBurst s).lastFan = s.lastFan := rfl
@[simp] theorem endBurst_lastLight : (endBurst s).lastLight = s.lastLight := rfl
@[simp] theorem endBurst_pkt : (endBurst s).pkt = s.pkt := rfl
@[simp] theorem endBurst_pwrV : (endBurst s).pwrV = s.pwrV := rfl
@[simp] theorem endBurst_pwrL : (endBurst s).pwrL = s.pwrL := rfl
@[simp] theorem endBurst_pendSmart : (endBurst s).pendSmart = s.pendSmart := rfl
@[simp] theorem endBurst_pendFan : (endBurst s).pendFan = s.pendFan := rfl
@[simp] theorem endBurst_pendLight : (endBurst s).pendLight = s.pendLight := rfl
@[simp] theorem endBurst_env : (endBurst s).env = s.env := rfl
@[simp] theorem endBurst_tick : (endBurst s).tick = s.tick := rfl

@[simp] theorem holdPacket_fsm (b : Bits) : (holdPacket b s).fsm = s.fsm := rfl
@[simp] theorem holdPacket_pidx (b : Bits) : (holdPacket b s).pidx = s.pidx := rfl
@[simp] theorem holdPacket_dcnt (b : Bits) : (holdPacket b s).dcnt = s.dcnt := rfl
@[simp] theorem holdPacket_timer (b : Bits) : (holdPacket b s).timer = s.timer := rfl
@[simp] theorem holdPacket_en (b : Bits) : (holdPacket b s).en = s.en := rfl
@[simp] theorem holdPacket_tx (b : Bits) : (holdPacket b s).tx = s.tx := rfl
@[simp] theorem holdPacket_result (b : Bits) : (holdPacket b s).result = s.result := rfl
@[simp] theorem holdPacket_backend (b : Bits) : (holdPacket b s).backend = s.backend := rfl
@[simp] theorem holdPacket_warn (b : Bits) : (holdPacket b s).warn = s.warn := rfl
@[simp] theorem holdPacket_rej (b : Bits) : (holdPacket b s).rej = s.rej := rfl
@[simp] theorem holdPacket_closed (b : Bits) : (holdPacket b s).closed = s.closed := rfl
@[simp] theorem holdPacket_claim (b : Bits) : (holdPacket b s).claim = s.claim := rfl
@[simp] theorem holdPacket_lastFan (b : Bits) : (holdPacket b s).lastFan = s.lastFan := rfl
@[simp] theorem holdPacket_lastLight (b : Bits) : (holdPacket b s).lastLight = s.lastLight := rfl
@[simp] theorem holdPacket_pkt (b : Bits) : (holdPacket b s).pkt = b := rfl
@[simp] theorem holdPacket_pwrV (b : Bits) : (holdPacket b s).pwrV = s.pwrV := rfl
@[simp] theorem holdPacket_pwrL (b : Bits) : (holdPacket b s).pwrL = s.pwrL := rfl
@[simp] theorem holdPacket_pendSmart (b : Bits) : (holdPacket b s).pendSmart = s.pendSmart := rfl
@[simp] theorem holdPacket_pendFan (b : Bits) : (holdPacket b s).pendFan = s.pendFan := rfl
@[simp] theorem holdPacket_pendLight (b : Bits) : (holdPacket b s).pendLight = s.pendLight := rfl
@[simp] theorem holdPacket_env (b : Bits) : (holdPacket b s).env = s.env := rfl
@[simp] theorem holdPacket_tick (b : Bits) : (holdPacket b s).tick = s.tick := rfl

@[simp] theorem setInputs_fsm (x : Inputs) : (setInputs x s).fsm = s.fsm := rfl
@[simp] theorem setInputs_pidx (x : Inputs) : (setInputs x s).pidx = s.pidx := rfl
@[simp] theorem setInputs_dcnt (x : Inputs) : (setInputs x s).dcnt = s.dcnt := rfl
@[simp] theorem setInputs_timer (x : Inputs) : (setInputs x s).timer = s.timer := rfl
@[simp] theorem setInputs_en (x : Inputs) : (setInputs x s).en = s.en := rfl
@[simp] theorem setInputs_tx (x : Inputs) : (setInputs x s).tx = s.tx := rfl
@[simp] theorem setInputs_result (x : Inputs) : (setInputs x s).result = s.result := rfl
@[simp] theorem setInputs_backend (x : Inputs) : (setInputs x s).backend = s.backend := rfl
@[simp] theorem setInputs_warn (x : Inputs) : (setInputs x s).warn = s.warn := rfl
@[simp] theorem setInputs_rej (x : Inputs) : (setInputs x s).rej = s.rej := rfl
@[simp] theorem setInputs_closed (x : Inputs) : (setInputs x s).closed = s.closed := rfl
@[simp] theorem setInputs_claim (x : Inputs) : (setInputs x s).claim = s.claim := rfl
@[simp] theorem setInputs_lastFan (x : Inputs) : (setInputs x s).lastFan = s.lastFan := rfl
@[simp] theorem setInputs_lastLight (x : Inputs) : (setInputs x s).lastLight = s.lastLight := rfl
@[simp] theorem setInputs_pkt (x : Inputs) : (setInputs x s).pkt = s.pkt := rfl
@[simp] theorem setInputs_pwrV (x : Inputs) : (setInputs x s).pwrV = s.pwrV := rfl
@[simp] theorem setInputs_pwrL (x : Inputs) : (setInputs x s).pwrL = s.pwrL := rfl
@[simp] theorem setInputs_pendSmart (x : Inputs) : (setInputs x s).pendSmart = s.pendSmart := rfl
@[simp] theorem setInputs_pendFan (x : Inputs) : (setInputs x s).pendFan = s.pendFan := rfl
@[simp] theorem setInputs_pendLight (x : Inputs) : (setInputs x s).pendLight = s.pendLight := rfl
@[simp] theorem setInputs_env (x : Inputs) : (setInputs x s).env = x :: s.env.tail := rfl
@[simp] theorem setInputs_tick (x : Inputs) : (setInputs x s).tick = s.tick := rfl

end Sys2Proof.Machine
end

