-- ==== Sys2Proof/Laws/Ops.lean ====
section
/-! SUPPORT. What each shared operation can do, said once: later proofs cite these and do not unfold the operations. -/

namespace Sys2Proof.Machine

/-! ### Selection, validation, transmission -/

theorem selectBackend_cases (s : State) :
    (s.backend ≠ .unselected ∧ selectBackend s = s) ∨
    (s.backend = .unselected ∧ probe s = true ∧ selectBackend s = claimHardware s) ∨
    (s.backend = .unselected ∧ probe s = false ∧ selectBackend s = raise .hardwareUnavailable s) := by
  unfold selectBackend
  by_cases h : s.backend = .unselected <;> by_cases hp : probe s = true <;> simp [h, hp]

theorem transmit_cases (c : Config) (b : Bits) (m : Bool) (f : FanCommand) (l : LightCommand)
    (p : Option (BitVec 3)) (s : State) :
    (s.backend = .dummy ∧ transmit c b m f l p s = commitLast m f l (succeed s)) ∨
    (s.backend ≠ .dummy ∧ powerOk c p = true ∧ transmit c b m f l p s = beginTransmission b m f l p s) ∨
    (s.backend ≠ .dummy ∧ powerOk c p = false ∧ transmit c b m f l p s = raise .invalidCommand s) := by
  unfold transmit dummyTransmit
  by_cases h : s.backend = .dummy <;> by_cases hp : powerOk c p = true <;> simp [h, hp]

/-- A TXD's fan command is a member of `FAN_SET`. -/
theorem validateTxd_mem {c : Config} {addr : BitVec 8} {fan : Option (BitVec 3)} {a : BitVec 4} {f : FanCommand}
    (h : validateTxd c addr fan = some (a, f)) : f ∈ c.fanSet := by
  unfold validateTxd at h
  split at h
  · simp only [Option.map_eq_some_iff, Prod.mk.injEq] at h
    obtain ⟨_, hx, _, rfl⟩ := h
    exact List.mem_of_getElem? hx
  · cases h

/-- A TXS's fan command is a member of `FAN_SET`, or the one carried forward. -/
theorem resolveTxs_mem {c : Config} {addr : BitVec 8} {fan : Option (BitVec 3)} {light : Option LightField}
    {lf : FanCommand} {ll : LightCommand} {a : BitVec 4} {f : FanCommand} {l : LightCommand}
    (h : resolveTxs c addr fan light lf ll = some (a, f, l)) : f ∈ c.fanSet ∨ f = lf := by
  unfold resolveTxs at h
  split at h
  · cases h
  · dsimp only at h
    split at h
    · rename_i hf _
      simp only [Option.some.injEq, Prod.mk.injEq] at h
      obtain ⟨_, rfl, _⟩ := h
      cases fan with
      | none => exact .inr (Option.some.inj hf).symm
      | some x => exact .inl (List.mem_of_getElem? hf)
    · cases h

theorem acceptTxd_cases (c : Config) (addr : BitVec 8) (fan power : Option (BitVec 3)) (s : State) :
    (s.backend = .unselected ∧ acceptTxd c addr fan power s = reject s) ∨
    (s.backend ≠ .unselected ∧ validateTxd c addr fan = none ∧
      acceptTxd c addr fan power s = raise .invalidCommand s) ∨
    (∃ a f, s.backend ≠ .unselected ∧ validateTxd c addr fan = some (a, f) ∧
      acceptTxd c addr fan power s = transmit c (encodeDumb c a f) false f (.level 0) power s) := by
  unfold acceptTxd
  by_cases h : s.backend = .unselected
  · simp [h]
  · cases hv : validateTxd c addr fan with
    | none => simp [h]
    | some x => exact .inr (.inr ⟨x.1, x.2, h, rfl, by simp [h]⟩)

theorem acceptTxs_cases (c : Config) (addr : BitVec 8) (fan : Option (BitVec 3)) (light : Option LightField)
    (power : Option (BitVec 3)) (s : State) :
    (s.backend = .unselected ∧ acceptTxs c addr fan light power s = reject s) ∨
    (s.backend ≠ .unselected ∧ resolveTxs c addr fan light s.lastFan s.lastLight = none ∧
      acceptTxs c addr fan light power s = raise .invalidCommand s) ∨
    (∃ a f l, s.backend ≠ .unselected ∧ resolveTxs c addr fan light s.lastFan s.lastLight = some (a, f, l) ∧
      acceptTxs c addr fan light power s = transmit c (encodeSmart c a f l) true f l power s) := by
  unfold acceptTxs
  by_cases h : s.backend = .unselected
  · simp [h]
  · cases hv : resolveTxs c addr fan light s.lastFan s.lastLight with
    | none => simp [h]
    | some x => exact .inr (.inr ⟨x.1, x.2.1, x.2.2, h, rfl, by simp [h]⟩)

/-! ### The busy states -/

theorem returnToIdle_cases (s : State) :
    (s.result = .none ∧
      returnToIdle s = releaseLines (commitLast s.pendSmart s.pendFan s.pendLight (succeed s))) ∨
    (s.result ≠ .none ∧ returnToIdle s = releaseLines s) := by
  unfold returnToIdle
  by_cases h : s.result = .none <;> simp [h]

theorem poweringUpStep_cases (s : State) :
    (s.pwrV = true ∧ s.inputs.busErr = true ∧ poweringUpStep s = raise .transmissionFailed (assertEnable s)) ∨
    ((s.pwrV = false ∨ s.inputs.busErr = false) ∧ poweringUpStep s = startWait (assertEnable s)) := by
  unfold poweringUpStep
  cases s.pwrV <;> cases s.inputs.busErr <;> simp

theorem awaitingReadyStep_cases (c : Config) (s : State) :
    (s.inputs.readyIn = true ∧ awaitingReadyStep c s = startBurst (pulseDuration (modulate c s.pkt) 0) s) ∨
    (s.inputs.readyIn = false ∧ s.timer + 1 ≥ c.readyTimeout ∧
      awaitingReadyStep c s = raise .hardwareTimeout (countSample s)) ∨
    (s.inputs.readyIn = false ∧ s.timer + 1 < c.readyTimeout ∧ awaitingReadyStep c s = countSample s) := by
  unfold awaitingReadyStep
  cases s.inputs.readyIn
  · by_cases h : s.timer + 1 ≥ c.readyTimeout
    · simp [h]
    · simp [h, Nat.lt_of_not_le h]
  · simp

theorem advancePulse_cases (c : Config) (s : State) :
    (1 < s.dcnt ∧ advancePulse c s = countTick s) ∨
    (s.dcnt ≤ 1 ∧ s.pidx + 1 < (modulate c s.pkt).length ∧
      advancePulse c s = nextPulse (pulseDuration (modulate c s.pkt) (s.pidx + 1)) s) ∨
    (s.dcnt ≤ 1 ∧ (modulate c s.pkt).length ≤ s.pidx + 1 ∧ advancePulse c s = endBurst s) := by
  unfold advancePulse
  by_cases h : s.dcnt - 1 > 0
  · exact .inl ⟨by omega, by simp [h]⟩
  · by_cases h2 : s.pidx + 1 < (modulate c s.pkt).length
    · exact .inr (.inl ⟨by omega, h2, by simp [h, h2]⟩)
    · exact .inr (.inr ⟨by omega, by omega, by simp [h, h2]⟩)

theorem emitTick_cases (c : Config) (v : Bool) (s : State) :
    (s.inputs.busErr = true ∧ emitTick c v s = raise .transmissionFailed s) ∨
    (s.inputs.busErr = false ∧ emitTick c v s = advancePulse c (emit v s)) := by
  unfold emitTick
  cases s.inputs.busErr <;> simp

/-- A failed emission forces `TX` to 0 in Transmitting (42_handshake.md R179). -/
theorem raise_transmissionFailed_of_transmitting {s : State} (h : s.fsm = .transmitting) :
    (raise .transmissionFailed s).tx = false := by simp [h]

theorem fsmStep_of_idle (c : Config) {s : State} (h : s.fsm = .idle) : fsmStep c s = s := by simp [fsmStep, h]

theorem fsmStep_of_poweringUp (c : Config) {s : State} (h : s.fsm = .poweringUp) :
    fsmStep c s = poweringUpStep s := by simp [fsmStep, h]

theorem fsmStep_of_awaitingReady (c : Config) {s : State} (h : s.fsm = .awaitingReady) :
    fsmStep c s = awaitingReadyStep c s := by simp [fsmStep, h]

theorem fsmStep_of_transmitting (c : Config) {s : State} (h : s.fsm = .transmitting) :
    fsmStep c s = emitTick c (currentLevel c s) s := by simp [fsmStep, h, transmittingStep]

theorem fsmStep_of_poweringDown (c : Config) {s : State} (h : s.fsm = .poweringDown) :
    fsmStep c s = returnToIdle s := by simp [fsmStep, h, poweringDownStep]

/-- All that the step of a busy state leaves as it was (42_handshake.md R175 to R180). -/
theorem fsmStep_keeps (c : Config) (s : State) :
    (fsmStep c s).backend = s.backend ∧ (fsmStep c s).warn = s.warn ∧ (fsmStep c s).rej = s.rej ∧
    (fsmStep c s).closed = s.closed ∧ (fsmStep c s).claim = s.claim ∧ (fsmStep c s).pkt = s.pkt ∧
    (fsmStep c s).pwrV = s.pwrV ∧ (fsmStep c s).pwrL = s.pwrL ∧ (fsmStep c s).pendSmart = s.pendSmart ∧
    (fsmStep c s).pendFan = s.pendFan ∧ (fsmStep c s).pendLight = s.pendLight ∧ (fsmStep c s).env = s.env ∧
    (fsmStep c s).tick = s.tick := by
  cases hf : s.fsm with
  | idle => simp [fsmStep_of_idle c hf]
  | poweringUp =>
    rw [fsmStep_of_poweringUp c hf]
    rcases poweringUpStep_cases s with ⟨_, _, h⟩ | ⟨_, h⟩ <;> simp [h]
  | awaitingReady =>
    rw [fsmStep_of_awaitingReady c hf]
    rcases awaitingReadyStep_cases c s with ⟨_, h⟩ | ⟨_, _, h⟩ | ⟨_, _, h⟩ <;> simp [h]
  | transmitting =>
    rw [fsmStep_of_transmitting c hf]
    rcases emitTick_cases c (currentLevel c s) s with ⟨_, h⟩ | ⟨_, h⟩
    · simp [h]
    · rw [h]
      rcases advancePulse_cases c (emit (currentLevel c s) s) with ⟨_, h⟩ | ⟨_, _, h⟩ | ⟨_, _, h⟩ <;> simp [h]
  | poweringDown =>
    rw [fsmStep_of_poweringDown c hf]
    rcases returnToIdle_cases s with ⟨_, h⟩ | ⟨_, h⟩ <;> simp [h]

/-- A busy state's step keeps the last-known fan or takes the pending one (42_handshake.md R180). -/
theorem fsmStep_lastFan (c : Config) (s : State) :
    (fsmStep c s).lastFan = s.lastFan ∨ (fsmStep c s).lastFan = s.pendFan := by
  cases hf : s.fsm with
  | idle => simp [fsmStep_of_idle c hf]
  | poweringUp =>
    rw [fsmStep_of_poweringUp c hf]
    rcases poweringUpStep_cases s with ⟨_, _, h⟩ | ⟨_, h⟩ <;> simp [h]
  | awaitingReady =>
    rw [fsmStep_of_awaitingReady c hf]
    rcases awaitingReadyStep_cases c s with ⟨_, h⟩ | ⟨_, _, h⟩ | ⟨_, _, h⟩ <;> simp [h]
  | transmitting =>
    rw [fsmStep_of_transmitting c hf]
    rcases emitTick_cases c (currentLevel c s) s with ⟨_, h⟩ | ⟨_, h⟩
    · simp [h]
    · rw [h]
      rcases advancePulse_cases c (emit (currentLevel c s) s) with ⟨_, h⟩ | ⟨_, _, h⟩ | ⟨_, _, h⟩ <;> simp [h]
  | poweringDown =>
    rw [fsmStep_of_poweringDown c hf]
    rcases returnToIdle_cases s with ⟨_, h⟩ | ⟨_, h⟩ <;> cases hp : s.pendSmart <;> simp [h, hp]

/-- The inputs are what `env` and `tick` say, whatever the registers hold. -/
theorem inputs_congr {s t : State} (he : s.env = t.env) (ht : s.tick = t.tick) : s.inputs = t.inputs := by
  simp [State.inputs, he, ht]

/-- A word rejected while busy changes nothing else in the step of `FSM` (43_backend.md R216). -/
theorem fsmStep_reject (c : Config) (s : State) : fsmStep c (reject s) = reject (fsmStep c s) := by
  have hin : (reject s).inputs = s.inputs := inputs_congr rfl rfl
  cases hf : s.fsm with
  | idle => rw [fsmStep_of_idle c hf, fsmStep_of_idle c (s := reject s) hf]
  | poweringUp =>
    rw [fsmStep_of_poweringUp c hf, fsmStep_of_poweringUp c (s := reject s) hf]
    unfold poweringUpStep
    rw [hin]
    by_cases h : (s.pwrV && s.inputs.busErr) = true
    · rw [if_pos h, if_pos (show ((reject s).pwrV && s.inputs.busErr) = true from h)]; rfl
    · rw [if_neg h, if_neg (show ¬ ((reject s).pwrV && s.inputs.busErr) = true from h)]; rfl
  | awaitingReady =>
    rw [fsmStep_of_awaitingReady c hf, fsmStep_of_awaitingReady c (s := reject s) hf]
    unfold awaitingReadyStep
    rw [hin]
    by_cases h : s.inputs.readyIn = true
    · rw [if_pos h, if_pos h]; rfl
    · rw [if_neg h, if_neg h]
      by_cases h : s.timer + 1 ≥ c.readyTimeout
      · rw [if_pos h, if_pos (show (reject s).timer + 1 ≥ c.readyTimeout from h)]; rfl
      · rw [if_neg h, if_neg (show ¬ (reject s).timer + 1 ≥ c.readyTimeout from h)]; rfl
  | transmitting =>
    rw [fsmStep_of_transmitting c hf, fsmStep_of_transmitting c (s := reject s) hf]
    have hl : currentLevel c (reject s) = currentLevel c s := rfl
    rw [hl]
    rcases emitTick_cases c (currentLevel c s) s with ⟨h, e⟩ | ⟨h, e⟩ <;>
      rcases emitTick_cases c (currentLevel c s) (reject s) with ⟨h', e'⟩ | ⟨h', e'⟩ <;> rw [hin] at h'
    · rw [e, e']; rfl
    · rw [h] at h'; cases h'
    · rw [h] at h'; cases h'
    · rw [e, e']
      rcases advancePulse_cases c (emit (currentLevel c s) s) with ⟨q1, e⟩ | ⟨q1, q2, e⟩ | ⟨q1, q2, e⟩ <;>
        rcases advancePulse_cases c (emit (currentLevel c s) (reject s)) with ⟨p1, e'⟩ | ⟨p1, p2, e'⟩ | ⟨p1, p2, e'⟩ <;>
        rw [e, e'] <;> first | rfl | (simp at *; omega)
  | poweringDown =>
    rw [fsmStep_of_poweringDown c hf, fsmStep_of_poweringDown c (s := reject s) hf]
    unfold returnToIdle
    by_cases h : s.result = .none
    · rw [if_pos h, if_pos (show (reject s).result = .none from h)]; rfl
    · rw [if_neg h, if_neg (show ¬ (reject s).result = .none from h)]; rfl

/-! ### Dispatch and step -/

theorem presented_cases (c : Config) (accept : State → State) (s : State) :
    (s.fsm ≠ .idle ∧ presented c accept s = fsmStep c (reject s)) ∨
    (s.fsm = .idle ∧ s.closed = true ∧ presented c accept s = reject s) ∨
    (s.fsm = .idle ∧ s.closed = false ∧ presented c accept s = accept s) := by
  unfold presented rejected
  by_cases h : s.fsm = .idle <;> cases hc : s.closed <;> simp [h]

/-- What one step can be: a reset, the word of the tick, or a tick without a word; and the tick is over. -/
theorem step_cases (s t : State) (h : step s = .next t) :
    (s.inputs.rst = true ∧ t = advance (resetRegisters cfg s)) ∨
    (s.inputs.rst = false ∧ ∃ i u, fetch cfg s = some i ∧ exec i s = .next u ∧ t = advance u) ∨
    (s.inputs.rst = false ∧ fetch cfg s = none ∧ t = advance (wordlessTick cfg s)) := by
  unfold step at h
  cases hr : s.inputs.rst
  · rw [hr] at h
    simp only [Bool.false_eq_true, if_false] at h
    cases hf : fetch cfg s with
    | none =>
      rw [hf] at h
      exact .inr (.inr ⟨rfl, rfl, (Host.Outcome.next.inj h).symm⟩)
    | some i =>
      rw [hf] at h
      cases he : exec i s with
      | next u =>
        simp only [he] at h
        exact .inr (.inl ⟨rfl, i, u, rfl, he, (Host.Outcome.next.inj h).symm⟩)
      | fault r => cases r
      | refused r => simp only [he] at h; cases h
  · rw [hr] at h
    exact .inl ⟨rfl, (Host.Outcome.next.inj h).symm⟩

end Sys2Proof.Machine
end

