-- ==== Sys2Proof/Laws/Dispatch.lean ====
section
/-! SUPPORT. What the dispatch of one tick (43_backend.md R215) can do, said once. -/

namespace Sys2Proof.Safety

open Sys2Proof.Machine

theorem dispatchTick_reset {c : Config} {s : State} (hr : s.inputs.rst = true) :
    dispatchTick c s = resetRegisters c s := by
  simp [dispatchTick, hr]

theorem dispatchTick_busy {c : Config} {s : State} (hr : s.inputs.rst = false) (hi : s.fsm ≠ .idle)
    (hc : s.inputs.cmdValid = false) : dispatchTick c s = fsmStep c s := by
  simp [dispatchTick, hr, hi, hc]

theorem dispatchTick_busy_word {c : Config} {s : State} (hr : s.inputs.rst = false) (hi : s.fsm ≠ .idle)
    (hc : s.inputs.cmdValid = true) : dispatchTick c s = fsmStep c (reject s) := by
  simp [dispatchTick, hr, hi, hc]

/-- A busy tick is the step of `FSM`, with `REJ` set if a word was presented. -/
theorem dispatchTick_busy_cases (c : Config) (s : State) (hr : s.inputs.rst = false) (hi : s.fsm ≠ .idle) :
    ∃ b, dispatchTick c s = { fsmStep c s with rej := b } ∧ (s.rej = true → b = true) := by
  cases hc : s.inputs.cmdValid
  · rw [dispatchTick_busy hr hi hc]
    exact ⟨s.rej, by rw [← (fsmStep_keeps c s).2.2.1], id⟩
  · rw [dispatchTick_busy_word hr hi hc, fsmStep_reject c]
    exact ⟨true, rfl, fun _ => rfl⟩

/-- Which rule an Idle tick without reset is dispatched to. -/
theorem dispatchTick_idle_rule (c : Config) (s : State) (hr : s.inputs.rst = false) (hi : s.fsm = .idle) :
    (s.inputs.cmdValid = false ∧ dispatchTick c s = s) ∨
    (s.inputs.cmdValid = true ∧ dispatchTick c s = reject s) ∨
    (s.inputs.cmdValid = true ∧ s.closed = false ∧ decodeCommand s.inputs.cmd = .ok .select ∧
      dispatchTick c s = selectBackend s) ∨
    (s.inputs.cmdValid = true ∧ s.closed = false ∧ decodeCommand s.inputs.cmd = .ok .close ∧
      dispatchTick c s = releaseHandles s) ∨
    (s.inputs.cmdValid = true ∧ s.closed = false ∧ s.backend ≠ .unselected ∧
      ∃ a f p, decodeCommand s.inputs.cmd = .ok (.txd a f p) ∧ dispatchTick c s = acceptTxd c a f p s) ∨
    (s.inputs.cmdValid = true ∧ s.closed = false ∧ s.backend ≠ .unselected ∧
      ∃ a f l p, decodeCommand s.inputs.cmd = .ok (.txs a f l p) ∧ dispatchTick c s = acceptTxs c a f l p s) := by
  cases hc : s.inputs.cmdValid
  · simp [dispatchTick, hr, hi, hc]
  · cases hcl : s.closed
    · cases hd : decodeCommand s.inputs.cmd with
      | rejected e => simp [dispatchTick, hr, hi, hc, hcl, hd]
      | ok i =>
        rcases decodeCommand_ok hd with rfl | rfl | ⟨a, f, p, rfl⟩ | ⟨a, f, l, p, rfl⟩
        · simp [dispatchTick, hr, hi, hc, hcl, hd]
        · simp [dispatchTick, hr, hi, hc, hcl, hd]
        · by_cases hb : s.backend = .unselected
          · simp [dispatchTick, hr, hi, hc, hcl, hd, hb, acceptTxd]
          · simp [dispatchTick, hr, hi, hc, hcl, hd, hb]
        · by_cases hb : s.backend = .unselected
          · simp [dispatchTick, hr, hi, hc, hcl, hd, hb, acceptTxs]
          · simp [dispatchTick, hr, hi, hc, hcl, hd, hb]
    · simp [dispatchTick, hr, hi, hc, hcl]

/-- All that an Idle tick without reset can do, down to the named operations. -/
theorem dispatchTick_idle_cases (c : Config) (s : State) (hr : s.inputs.rst = false) (hi : s.fsm = .idle) :
    dispatchTick c s = s ∨
    (s.inputs.cmdValid = true ∧ dispatchTick c s = reject s) ∨
    (s.inputs.cmdValid = true ∧ s.closed = false ∧ decodeCommand s.inputs.cmd = .ok .select ∧
      s.backend = .unselected ∧ probe s = true ∧ dispatchTick c s = claimHardware s) ∨
    (s.inputs.cmdValid = true ∧ s.closed = false ∧ decodeCommand s.inputs.cmd = .ok .select ∧
      s.backend = .unselected ∧ probe s = false ∧ dispatchTick c s = raise .hardwareUnavailable s) ∨
    (s.inputs.cmdValid = true ∧ s.closed = false ∧ decodeCommand s.inputs.cmd = .ok .close ∧
      dispatchTick c s = releaseHandles s) ∨
    (s.inputs.cmdValid = true ∧ s.closed = false ∧ s.backend ≠ .unselected ∧
      dispatchTick c s = raise .invalidCommand s) ∨
    (s.inputs.cmdValid = true ∧ s.closed = false ∧ s.backend = .dummy ∧
      (∃ a f p, decodeCommand s.inputs.cmd = .ok (.txd a f p)) ∧
      ∃ f l, dispatchTick c s = commitLast false f l (succeed s)) ∨
    (s.inputs.cmdValid = true ∧ s.closed = false ∧ s.backend = .dummy ∧
      (∃ a f l p, decodeCommand s.inputs.cmd = .ok (.txs a f l p)) ∧
      ∃ f l, (f ∈ c.fanSet ∨ f = s.lastFan) ∧ dispatchTick c s = commitLast true f l (succeed s)) ∨
    (s.inputs.cmdValid = true ∧ s.closed = false ∧ s.backend = .hardware ∧
      (∃ a f p, decodeCommand s.inputs.cmd = .ok (.txd a f p)) ∧
      ∃ a f p, f ∈ c.fanSet ∧ dispatchTick c s = beginTransmission (encodeDumb c a f) false f (.level 0) p s) ∨
    (s.inputs.cmdValid = true ∧ s.closed = false ∧ s.backend = .hardware ∧
      (∃ a f l p, decodeCommand s.inputs.cmd = .ok (.txs a f l p)) ∧
      ∃ a f l p, (f ∈ c.fanSet ∨ f = s.lastFan) ∧
        dispatchTick c s = beginTransmission (encodeSmart c a f l) true f l p s) := by
  have hw : s.backend ≠ .unselected → s.backend ≠ .dummy → s.backend = .hardware := by
    intro h1 h2; cases hb : s.backend <;> simp_all
  rcases dispatchTick_idle_rule c s hr hi with ⟨_, h⟩ | ⟨hc, h⟩ | ⟨hc, hcl, hd, h⟩ | ⟨hc, hcl, hd, h⟩ |
    ⟨hc, hcl, hu, a, f, p, hd, h⟩ | ⟨hc, hcl, hu, a, f, l, p, hd, h⟩
  · exact .inl h
  · exact .inr (.inl ⟨hc, h⟩)
  · rcases selectBackend_cases s with ⟨_, h2⟩ | ⟨hb, hp, h2⟩ | ⟨hb, hp, h2⟩ <;> rw [h2] at h
    · exact .inl h
    · exact .inr (.inr (.inl ⟨hc, hcl, hd, hb, hp, h⟩))
    · exact .inr (.inr (.inr (.inl ⟨hc, hcl, hd, hb, hp, h⟩)))
  · exact .inr (.inr (.inr (.inr (.inl ⟨hc, hcl, hd, h⟩))))
  · rcases acceptTxd_cases c a f p s with ⟨hb, _⟩ | ⟨_, _, h2⟩ | ⟨a', f', _, hv, h2⟩
    · exact absurd hb hu
    · rw [h2] at h
      exact .inr (.inr (.inr (.inr (.inr (.inl ⟨hc, hcl, hu, h⟩)))))
    · rw [h2] at h
      rcases transmit_cases c (encodeDumb c a' f') false f' (.level 0) p s with
        ⟨hb, h2⟩ | ⟨hb, _, h2⟩ | ⟨_, _, h2⟩ <;> rw [h2] at h
      · exact .inr (.inr (.inr (.inr (.inr (.inr (.inl ⟨hc, hcl, hb, ⟨_, _, _, hd⟩, _, _, h⟩))))))
      · exact .inr (.inr (.inr (.inr (.inr (.inr (.inr (.inr (.inl
          ⟨hc, hcl, hw hu hb, ⟨_, _, _, hd⟩, _, _, _, validateTxd_mem hv, h⟩))))))))
      · exact .inr (.inr (.inr (.inr (.inr (.inl ⟨hc, hcl, hu, h⟩)))))
  · rcases acceptTxs_cases c a f l p s with ⟨hb, _⟩ | ⟨_, _, h2⟩ | ⟨a', f', l', _, hv, h2⟩
    · exact absurd hb hu
    · rw [h2] at h
      exact .inr (.inr (.inr (.inr (.inr (.inl ⟨hc, hcl, hu, h⟩)))))
    · rw [h2] at h
      rcases transmit_cases c (encodeSmart c a' f' l') true f' l' p s with
        ⟨hb, h2⟩ | ⟨hb, _, h2⟩ | ⟨_, _, h2⟩ <;> rw [h2] at h
      · exact .inr (.inr (.inr (.inr (.inr (.inr (.inr (.inl
          ⟨hc, hcl, hb, ⟨_, _, _, _, hd⟩, _, _, resolveTxs_mem hv, h⟩)))))))
      · exact .inr (.inr (.inr (.inr (.inr (.inr (.inr (.inr (.inr
          ⟨hc, hcl, hw hu hb, ⟨_, _, _, _, hd⟩, _, _, _, _, resolveTxs_mem hv, h⟩))))))))
      · exact .inr (.inr (.inr (.inr (.inr (.inl ⟨hc, hcl, hu, h⟩)))))

/-- A tick leaves the model's own fields to `advance`. -/
theorem dispatchTick_keeps (c : Config) (s : State) :
    (dispatchTick c s).env = s.env ∧ (dispatchTick c s).tick = s.tick := by
  cases hr : s.inputs.rst
  · by_cases hi : s.fsm = .idle
    · rcases dispatchTick_idle_cases c s hr hi with h | ⟨_, h⟩ | ⟨_, _, _, _, _, h⟩ | ⟨_, _, _, _, _, h⟩ |
        ⟨_, _, _, h⟩ | ⟨_, _, _, h⟩ | ⟨_, _, _, _, f, l, h⟩ | ⟨_, _, _, _, f, l, _, h⟩ | ⟨_, _, _, _, a, f, p, _, h⟩ |
        ⟨_, _, _, _, a, f, l, p, _, h⟩ <;> rw [h] <;> simp
    · obtain ⟨b, h, _⟩ := dispatchTick_busy_cases c s hr hi
      rw [h]
      obtain ⟨_, _, _, _, _, _, _, _, _, _, _, k12, k13⟩ := fsmStep_keeps c s
      simp [k12, k13]
  · simp [dispatchTick_reset hr]

end Sys2Proof.Safety
end

