-- ==== Sys2Proof/Laws/Modulator.lean ====
section
/-! SUPPORT. The pulse sequence of the instance's timing table: never empty, no pulse of duration 0; the symbol found
under a position. -/

namespace Sys2Proof.Machine

theorem modulate_cfg_pos (b : Bits) : 0 < (modulate cfg b).length := by simp [modulate, cfg]

/-- Every pulse of the instance lasts at least one tick (41_modulator.md R157). -/
theorem one_le_pulseDuration (b : Bits) (k : Nat) (h : k < (modulate cfg b).length) :
    1 ≤ pulseDuration (modulate cfg b) k := by
  have hp : ∀ p ∈ modulate cfg b, 1 ≤ p.duration := by
    intro p hp
    simp only [modulate, List.mem_append, List.mem_flatMap] at hp
    rcases hp with hp | ⟨x, _, hp⟩
    · revert p; decide
    · revert p; cases x <;> decide
  simp only [pulseDuration, List.getElem?_eq_getElem h]
  exact hp _ (List.getElem_mem h)

/-- The place found is one of the symbol's own pulses. -/
theorem locateSymbol_lt (c : Config) (ys : List Symbol) (k : Nat) {y : Symbol} {j : Nat}
    (h : locateSymbol c ys k = some (y, j)) : j < (symbolPulses c y).length := by
  induction ys generalizing k with
  | nil => simp [locateSymbol] at h
  | cons z ys ih =>
    unfold locateSymbol at h
    split at h
    · simp at h; obtain ⟨rfl, rfl⟩ := h; assumption
    · exact ih _ h

end Sys2Proof.Machine
end

