-- ==== Sys2Proof/Laws/PerInstr.lean ====
section
/-! SUPPORT. What holds of every instruction as syntax, one lemma per constructor: how many bits it is encoded in. -/

namespace Sys2Proof.Laws.EncodedLength

open Sys2Proof.Machine

/-- A command word is 32 bits, a packet 12 or 22, a symbol 8 or 3 (30_encoding.md R80, R90, R91, R92, R94). -/
def Statement (i : Instr) : Prop :=
  (encode i).length = 32 ∨ (encode i).length = 12 ∨ (encode i).length = 22 ∨ (encode i).length = 8 ∨
    (encode i).length = 3

theorem select : Statement .select := .inl (by simp [encode])
theorem txd (addr : BitVec 8) (fan : Option (BitVec 3)) (power : Option (BitVec 3)) :
    Statement (.txd addr fan power) := .inl (by simp [encode])
theorem txs (addr : BitVec 8) (fan : Option (BitVec 3)) (light : Option LightField) (power : Option (BitVec 3)) :
    Statement (.txs addr fan light power) := .inl (by simp [encode])
theorem close : Statement .close := .inl (by simp [encode])
theorem pktDumb (addr : BitVec 4) (fan : FanCommand) : Statement (.pktDumb addr fan) :=
  .inr (.inl (by simp [encode, encodeDumb, addrField, fanField, cfg]))
theorem pktSmart (addr : BitVec 4) (fan : FanCommand) (light : LightCommand) : Statement (.pktSmart addr fan light) :=
  .inr (.inr (.inl (by simp [encode, encodeSmart, addrField, fanField, lightField, cfg])))
theorem sync : Statement .sync := .inr (.inr (.inr (.inl (by decide))))
theorem sym0 : Statement .sym0 := .inr (.inr (.inr (.inr (by decide))))
theorem sym1 : Statement .sym1 := .inr (.inr (.inr (.inr (by decide))))

end Sys2Proof.Laws.EncodedLength
end

