-- ==== Sys2Proof/Laws/Run.lean ====
section
/-! SUPPORT. Runs of the machine, one step at a time. -/

namespace Sys2Proof.Safety

open Sys2Proof.Machine

theorem core_run_succ (M : Host.Core) (k : Nat) (s t : M.State) (h : M.step s = .next t) :
    M.run (k + 1) s = M.run k t := by
  simp only [Host.Core.run, h]

@[simp] theorem run_zero (s : State) : run 0 s = .next s := rfl

/-- A run whose first step answers a state goes on from that state. -/
theorem run_succ (k : Nat) (s t : State) (h : step s = .next t) : run (k + 1) s = run k t :=
  core_run_succ Sys2Proof.core k s t h

theorem inputsAt_zero (s : State) : inputsAt s 0 = s.inputs := by
  unfold inputsAt State.inputs
  cases s.env <;> simp

/-- The inputs ahead, one tick later. -/
theorem inputsAt_succ (s t : State) (k : Nat) (he : t.env = s.env.tail) (ht : t.tick = s.tick + 1) :
    inputsAt t k = inputsAt s (k + 1) := by
  unfold inputsAt
  rw [he, ht]
  simp [Nat.add_assoc, Nat.add_comm 1]

end Sys2Proof.Safety
end

