-- ==== Sys2Proof/Tests/Slice0.lean ====
section
/-! SUPPORT. Tests of one step each, with expected values from 95_test_vectors.md; what WellFormed refuses; and, for
every statement that has hypotheses, a named state and operands that meet them. -/

namespace Sys2Proof.Tests

open Sys2Proof Sys2Proof.Machine Sys2Proof.Safety

/-! ### Small states and inputs -/

/-- A field of the next state. -/
def after {α : Type} (f : State → α) (o : Host.Outcome State Fault Refusal) : Option α :=
  match o with
  | .next s => some (f s)
  | .fault _ => none
  | .refused _ => none

/-- The inputs of a tick with a command word and the three probes. -/
def word (w : CommandWord) (bus irq sdn : Bool) : Inputs :=
  { Inputs.quiet with cmdValid := true, cmd := w, probeBus := bus, probeIrq := irq, probeSdn := sdn }

/-- The coming tick has the given inputs; the ones after it are quiet for `n` ticks. -/
def tickWith (x : Inputs) (n : Nat) (s : State) : State := { s with env := x :: List.replicate n Inputs.quiet }

/-- A command word is presented at the coming tick. -/
def give (w : CommandWord) (s : State) : State := tickWith (word w false false false) 0 s

/-- Idle under the Hardware backend. -/
def hwIdle : State := { State.reset with backend := .hardware, claim := true }

/-- Idle under the Dummy Backend. -/
def dummyIdle : State := { State.reset with backend := .dummy, warn := true }

/-- The packet of 95_test_vectors.md S6. -/
def packet9 : Bits := [false, true, false, true, true, false, false, true, false, true, true, false]

/-- The packet of 95_test_vectors.md S5. -/
def packet14 : Bits :=
  [true, false, true, false, true, true, true, false, true, false, false, true, false, false, true, false, true, true,
    false, false, true, true]

/-- A busy state under the Hardware backend with the dumb packet of S6. -/
def busyIn (m : Fsm) : State :=
  { hwIdle with fsm := m, en := decide (m ≠ .poweringUp), pkt := packet9, pendFan := .low }

/-- The first tick of that packet's burst. -/
def burstStart : State := { busyIn .transmitting with dcnt := 4 }

/-- A smart transmission in its PoweringDown tick. -/
def smartDown : State :=
  { busyIn .poweringDown with pkt := packet14, pendSmart := true, pendFan := .medium, pendLight := .level 75 }

/-! ### WellFormed: an ill-formed configuration for each check, and it is refused -/

theorem test_wf_zero_duration : ({ cfg with sync := [⟨true, 0⟩] } : Config).durationsPositive = false := by decide
theorem test_wf_empty_symbol : ({ cfg with sym0 := [] } : Config).symbolsDistinct = false := by decide
theorem test_wf_equal_symbols : ({ cfg with sym1 := cfg.sym0 } : Config).symbolsDistinct = false := by decide
theorem test_wf_zero_timeout : ({ cfg with readyTimeout := 0 } : Config).timeoutPositive = false := by decide
theorem test_wf_equal_lengths : ({ cfg with lSmart := 12 } : Config).lengthsFit = false := by decide
theorem test_wf_equal_preambles : ({ cfg with preSmart := cfg.preDumb } : Config).preamblesDiffer = false := by decide
theorem test_wf_quantizer : ({ cfg with lightQuant := fun p => p + 1 } : Config).quantizerFits = false := by decide
theorem test_wf_power_max : ({ cfg with pwrMax := 8 } : Config).powerMaxFits = false := by decide
theorem test_wf_source_values :
    ({ cfg with addrMax := 7 } : Config).sourceValues = false ∧
    ({ cfg with lightMax := 99 } : Config).sourceValues = false ∧
    ({ cfg with addrBits := 3, addrMax := 7 } : Config).sourceValues = false := by decide
theorem test_wf_fans :
    ({ cfg with fanBits := 1 } : Config).fansFit = false ∧
    ({ cfg with fanSet := [.off, .low, .high] } : Config).fansFit = false ∧
    ({ cfg with fanSet := [.off, .medium, .low, .high] } : Config).fansFit = false ∧
    ({ cfg with fanSet := [.off, .off, .low, .medium, .high], fanBits := 3 } : Config).fansFit = false ∧
    ({ cfg with fanDefault := .further 0 } : Config).fansFit = false := by decide
theorem test_wf_light_bits : ({ cfg with lightBits := 7 } : Config).lightFits = false := by decide
/-- A packet whose fan command is no member of `FAN_SET`. -/
theorem test_wf_instr :
    Instr.wf (.pktDumb 9 (.further 0)) = false ∧ Instr.wf (.pktSmart 9 (.further 3) (.level 0)) = false := by decide
/-- A replacement `FAN_SET` of five, with the longer fan field and lengths it needs: it fits, and code 2 is the new one. -/
theorem test_wf_replacement :
    ({ cfg with fanSet := [.off, .low, .further 0, .medium, .high], fanBits := 3, lDumb := 13, lSmart := 23 } :
      Config).fansFit = true ∧
    ({ cfg with fanSet := [.off, .low, .further 0, .medium, .high], fanBits := 3, lDumb := 13, lSmart := 23 } :
      Config).lengthsFit = true ∧
    encodeDumb { cfg with fanSet := [.off, .low, .further 0, .medium, .high], fanBits := 3, lDumb := 13, lSmart := 23 }
      9 .high = [false, true, false, true, true, false, false, true, true, false, false, true, true] := by decide
theorem test_wf_refused : ({ cfg with pwrMax := 8 } : Config).conforming = false := by
  rw [Config.conforming, test_wf_power_max, Bool.and_false]

/-! ### Decoding: words written out from the spec's encodings -/

/-- 95_test_vectors.md V6: all bits but `OP` are ignored. -/
theorem test_decode_select : decodeCommand 0x1FFFFFFF = .ok .select := by decide
/-- V6. -/
theorem test_decode_close : decodeCommand 0x4ABCDEF7 = .ok .close := by decide
/-- P1's word with `pwr=2`: 0010 00001001 1 001 0 0 0000000 1 010 000. -/
theorem test_decode_txd :
    decodeCommand 0b00100000100110010000000001010000 = .ok (.txd 9 (some 1) (some 2)) := by decide
/-- V3: `txd 9, -`. -/
theorem test_decode_txd_absent : decodeCommand 0x20910000 = .ok (.txd 9 none none) := by decide
/-- S5: 0011 00001110 1 010 1 0 1001011 0 000 000. -/
theorem test_decode_txs :
    decodeCommand 0b00110000111010101010010110000000 = .ok (.txs 14 (some 2) (some ⟨false, 75⟩) none) := by decide
/-- V3: `txs 14, -, 10` with `FAN` 7 ignored. -/
theorem test_decode_txs_absent :
    decodeCommand 0x30E78500 = .ok (.txs 14 none (some ⟨false, 10⟩) none) := by decide
/-- V6 row 11. -/
theorem test_decode_reserved :
    decodeCommand 0x00990000 = .rejected .reservedOp ∧ decodeCommand 0xF0000000 = .rejected .reservedOp := by decide
/-- S6 and V1's last row. -/
theorem test_decode_dumb :
    decode packet9 = .ok (.pktDumb 9 .low) ∧
    decode [false, true, false, true, true, true, false, false, true, false, false, true]
      = .ok (.pktDumb 12 .medium) := by decide
/-- S5 and V2's `txs 7, low, on`. -/
theorem test_decode_smart :
    decode packet14 = .ok (.pktSmart 14 .medium (.level 75)) ∧
    decode [true, false, true, false, false, true, true, true, false, true, true, false, false, false, false, false,
      false, true, true, true, true, true] = .ok (.pktSmart 7 .low (.onOff true)) := by decide
/-- A wrong check bit, and a light field that is no `LIGHT8` code with a right check field. -/
theorem test_decode_bad_packets :
    decode [false, true, false, true, true, false, false, true, false, true, true, true] = .rejected .badCheck ∧
    decode [true, false, true, false, false, false, false, false, false, false, true, true, true, true, true, true,
      true, true, false, false, false, false] = .rejected .illegalField := by decide
/-- Rows `SYNC`, `SYM0`, `SYM1` of opcode_table.json. -/
theorem test_decode_symbols :
    decode [true, true, true, true, false, false, false, false] = .ok .sync ∧
    decode [true, false, false] = .ok .sym0 ∧ decode [true, true, false] = .ok .sym1 ∧
    decode [true, true, true] = .rejected .notASymbol ∧ decode [] = .rejected .noSuchLength := by decide
/-- The table's own words. -/
theorem test_table_words :
    decodeTableWord 32 0x10000000 = some .select ∧ decodeTableWord 32 0x40000000 = some .close ∧
    decodeTableWord 32 0x20000000 = some (.txd 0 none none) ∧
    decodeTableWord 32 0x30000000 = some (.txs 0 none none none) ∧
    decodeTableWord 16 0x500 = some (.pktDumb 0 .off) ∧
    decodeTableWord 24 0x280000 = some (.pktSmart 0 .off (.level 0)) ∧
    decodeTableWord 8 0xF0 = some .sync ∧ decodeTableWord 8 4 = some .sym0 ∧
    decodeTableWord 8 6 = some .sym1 ∧ decodeTableWord 32 0 = none := by decide

/-! ### One step each -/

/-- V6 rows 1 and 6. -/
theorem test_select :
    after status (step (tickWith (word 0x10000000 true true true) 0 State.reset)) = some 0x0210 ∧
    after status (step (tickWith (word 0x10000000 true true true) 0 dummyIdle)) = some 0x0060 := by decide
/-- V6 row 4: one probe 0 is enough. -/
theorem test_select_dummy :
    after status (step (tickWith (word 0x10000000 true true false) 0 State.reset)) = some 0x0060 := by decide
/-- V6 rows 12 and 9. -/
theorem test_close :
    after status (step (give 0x40000000 { hwIdle with result := .ok })) = some 0x0111 ∧
    after status (step (give 0x40000000 State.reset)) = some 0x0100 := by decide
/-- V6 row 8 and P12 tick 3: rejected before SELECT and after CLOSE. -/
theorem test_rejected :
    after status (step (give 0x20990000 State.reset)) = some 0x0080 ∧
    after status (step (give 0x10000000 { State.reset with closed := true, rej := true })) = some 0x0180 := by decide
/-- S6 and V7: the packet is held, the machine is in PoweringUp. -/
theorem test_txd :
    after (fun t => (status t, t.pkt)) (step (give 0x20990000 hwIdle)) = some (0x0618, packet9) := by decide
/-- V3: `txd 9, low, pwr=5`, under Hardware and under Dummy. -/
theorem test_txd_power :
    after status (step (give 0x20990068 hwIdle)) = some 0x0212 ∧
    after status (step (give 0x20990068 dummyIdle)) = some 0x0061 := by decide
/-- S5, and the carry-forward of V2: `txs 14, -, 20` after `(Medium, 75)` sends `txs 14, medium, 20`. -/
theorem test_txs :
    after (fun t => (status t, t.pkt)) (step (give 0x30EAA580 hwIdle)) = some (0x0618, packet14) ∧
    after (fun t => (t.pkt, lastv cfg t))
      (step (give 0x30E08A00 { hwIdle with lastFan := .medium, lastLight := .level 75 })) =
      some ([true, false, true, false, true, true, true, false, true, false, false, false, false, true, false, true,
        false, false, true, false, false, true], 0x24B) := by decide
/-- V6 row 13, and V3's `LVAL` 101. -/
theorem test_txs_dummy :
    after (fun t => (status t, lastv cfg t)) (step (give 0x30EAA580 dummyIdle)) = some (0x0061, 0x24B) ∧
    after status (step (give 0x3019B280 dummyIdle)) = some 0x0062 := by decide
/-- V5 rows 1 and 3. -/
theorem test_powering_up :
    after (fun t => (t.fsm, t.en, t.result)) (step (tickWith { Inputs.quiet with busErr := true } 0 (busyIn .poweringUp)))
      = some (.awaitingReady, true, .none) ∧
    after (fun t => (t.fsm, t.en, t.result))
      (step (tickWith { Inputs.quiet with busErr := true } 0 { busyIn .poweringUp with pwrV := true, pwrL := 4 }))
      = some (.poweringDown, true, .transmissionFailed) := by decide
/-- V5 rows 5, 6 and 7, with `READY_TIMEOUT` 4. -/
theorem test_awaiting_ready :
    (fun t : State => (t.fsm, t.timer))
      (awaitingReadyStep { cfg with readyTimeout := 4 } (tickWith Inputs.quiet 0 (busyIn .awaitingReady)))
      = (.awaitingReady, 1) ∧
    (fun t : State => (t.fsm, t.timer, t.result))
      (awaitingReadyStep { cfg with readyTimeout := 4 } (tickWith Inputs.quiet 0 { busyIn .awaitingReady with timer := 3 }))
      = (.poweringDown, 4, .hardwareTimeout) ∧
    (fun t : State => (t.fsm, t.pidx, t.dcnt))
      (awaitingReadyStep { cfg with readyTimeout := 4 }
        (tickWith { Inputs.quiet with readyIn := true } 0 { busyIn .awaitingReady with timer := 3 }))
      = (.transmitting, 0, 4) := by decide
/-- V5 row 4, with a packet word in flight. -/
theorem test_pkt_dumb :
    after (fun t => (t.fsm, t.pidx, t.dcnt, t.tx))
      (step (tickWith { Inputs.quiet with readyIn := true } 0 (busyIn .awaitingReady)))
      = some (.transmitting, 0, 4, false) := by decide
/-- V5 row 14, with a smart packet word in flight. -/
theorem test_pkt_smart :
    after (fun t => (status t, lastv cfg t, t.en)) (step (tickWith Inputs.quiet 0 smartDown))
      = some (0x0211, 0x24B, false) := by decide
/-- V5 rows 9 and 10. -/
theorem test_sync :
    after (fun t => (t.tx, t.pidx, t.dcnt)) (step (tickWith Inputs.quiet 0 burstStart)) = some (true, 0, 3) ∧
    after (fun t => (t.tx, t.pidx, t.dcnt)) (step (tickWith Inputs.quiet 0 { burstStart with dcnt := 1 }))
      = some (true, 1, 4) := by decide
/-- V5 rows 11 and 12: the last bit of S6's packet is a 0. -/
theorem test_sym0 :
    after (fun t => (t.tx, t.pidx, t.dcnt, t.fsm))
      (step (tickWith Inputs.quiet 0 { burstStart with pidx := 25, dcnt := 1 })) = some (false, 26, 0, .poweringDown) ∧
    after (fun t => (t.tx, t.pidx, t.dcnt, t.result))
      (step (tickWith { Inputs.quiet with busErr := true } 0 { burstStart with pidx := 25, dcnt := 1, tx := true }))
      = some (false, 25, 1, .transmissionFailed) := by decide
/-- S6's pulses: bit 1 of the packet is a 1, pulses 4 and 5 are `(1,2)(0,1)`, and pulse 6 is `(1,1)`. -/
theorem test_sym1 :
    after (fun t => (t.tx, t.pidx, t.dcnt)) (step (tickWith Inputs.quiet 0 { burstStart with pidx := 4, dcnt := 2 }))
      = some (true, 4, 1) ∧
    after (fun t => (t.tx, t.pidx, t.dcnt)) (step (tickWith Inputs.quiet 0 { burstStart with pidx := 5, dcnt := 1 }))
      = some (false, 6, 1) := by decide
/-- V5 row 17: a word in a busy state. -/
theorem test_busy_word :
    after (fun t => (t.tx, t.dcnt, t.rej)) (step (give 0x20990000 burstStart)) = some (true, 3, true) := by decide
/-- P8 tick 7: reset wins over the word. -/
theorem test_reset :
    after status (step (tickWith { word 0x10000000 true true true with rst := true } 0 { burstStart with tx := true }))
      = some 0x0000 := by decide
/-- 43_backend.md R219: the pins are driven while `CLAIM` is 1 and released after CLOSE, under Dummy and after reset. -/
theorem test_pins :
    txPin { burstStart with tx := true } = .driven true ∧
    enPin { cfg with enPinSense := .activeLow } burstStart = .driven false ∧
    busPins cfg hwIdle = .driven none ∧ txPin dummyIdle = .released ∧ enPin cfg State.reset = .released ∧
    after (fun t => (enPin cfg t, txPin t)) (step (give 0x40000000 hwIdle)) = some (.released, .released) := by decide
/-- V4, row `01`. -/
theorem test_waveform :
    waveform [false, true] =
      [true, true, true, true, false, false, false, false, true, false, false, true, true, false] := by decide
/-- The words of the table run as the first step after reset. -/
theorem test_fetch_word :
    after (fun t => t.warn) (step (State.reset.withFetchWord 32 0x10000000)) = some true ∧
    after (fun t => t.closed) (step (State.reset.withFetchWord 32 0x40000000)) = some true ∧
    after (fun t => t.rej) (step (State.reset.withFetchWord 32 0x20000000)) = some true ∧
    after (fun t => t.fsm) (step (State.reset.withFetchWord 16 0x500)) = some .transmitting ∧
    after (fun t => t.fsm) (step (State.reset.withFetchWord 24 0x280000)) = some .transmitting ∧
    after (fun t => (t.tx, t.dcnt)) (step (State.reset.withFetchWord 8 0xF0)) = some (true, 3) ∧
    after (fun t => (t.tx, t.pidx, t.dcnt)) (step (State.reset.withFetchWord 8 4)) = some (true, 3, 2) ∧
    after (fun t => (t.tx, t.pidx, t.dcnt)) (step (State.reset.withFetchWord 8 6)) = some (true, 2, 1) := by decide

/-! ### Witnesses: states and operands that meet the hypotheses of each statement that has some -/

theorem witness_DecodeEncodeRoundTrip :
    Instr.wf (.txs 255 (some 7) (some ⟨true, 127⟩) (some 7)) = true ∧ Instr.wf (.pktSmart 15 .high (.level 100)) = true ∧
    Instr.wf .sym1 = true := by decide

/-- SELECT, a TXD with other light fields and an unused power field, a TXS with an unused fan field. -/
theorem witness_IgnoredBitsHaveNoEffect :
    (commandFields 0x1FFFFFFF).op = (commandFields 0x10000000).op ∧
    ((commandFields 0x20990000).op = (commandFields 0x2099FFBF).op ∧
      (commandFields 0x20990000).addr = (commandFields 0x2099FFBF).addr ∧
      (commandFields 0x20990000).fv = (commandFields 0x2099FFBF).fv ∧
      (commandFields 0x20990000).fan = (commandFields 0x2099FFBF).fan ∧
      (commandFields 0x20990000).pv = (commandFields 0x2099FFBF).pv ∧
      (commandFields 0x20990000).pv = false ∧ (commandFields 0x20990000).op ≠ 3) ∧
    ((commandFields 0x30E08A00).op = (commandFields 0x30E78A3F).op ∧
      (commandFields 0x30E08A00).addr = (commandFields 0x30E78A3F).addr ∧
      (commandFields 0x30E08A00).fv = (commandFields 0x30E78A3F).fv ∧ (commandFields 0x30E08A00).fv = false ∧
      (commandFields 0x30E08A00).pv = (commandFields 0x30E78A3F).pv ∧ (commandFields 0x30E08A00).pv = false ∧
      (commandFields 0x30E08A00).lv = (commandFields 0x30E78A3F).lv ∧
      (commandFields 0x30E08A00).lm = (commandFields 0x30E78A3F).lm ∧
      (commandFields 0x30E08A00).lval = (commandFields 0x30E78A3F).lval) := by decide

theorem witness_LightCodesInjectiveAndLegal : light8 (.level 0) = light8 (.level 0) := rfl

/-- The first and the last member of `FAN_SET`. -/
theorem witness_DumbPacketRoundTrip : FanCommand.off ∈ cfg.fanSet ∧ FanCommand.high ∈ cfg.fanSet := by decide

theorem witness_SmartPacketRoundTrip : FanCommand.low ∈ cfg.fanSet ∧ FanCommand.medium ∈ cfg.fanSet := by decide

theorem witness_PacketsDistinct :
    FanCommand.low ∈ cfg.fanSet ∧ FanCommand.medium ∈ cfg.fanSet ∧
    encodeDumb cfg 9 .low = encodeDumb cfg 9 .low ∧
    encodeSmart cfg 14 .medium (.level 75) = encodeSmart cfg 14 .medium (.level 75) :=
  ⟨by decide, by decide, rfl, rfl⟩

/-- One state for each of the three clauses. -/
theorem witness_StepRunsDecodedInstruction :
    ((give 0x40000000 hwIdle).inputs.rst = false ∧ (∃ t, exec .close (give 0x40000000 hwIdle) = .next t) ∧
      (give 0x40000000 hwIdle).inputs.cmdValid = true ∧
      decodeCommand (give 0x40000000 hwIdle).inputs.cmd = .ok .close) ∧
    ((tickWith Inputs.quiet 0 (busyIn .poweringUp)).inputs.rst = false ∧
      (∃ t, exec (.pktDumb 9 .low) (tickWith Inputs.quiet 0 (busyIn .poweringUp)) = .next t) ∧
      (tickWith Inputs.quiet 0 (busyIn .poweringUp)).inputs.cmdValid = false ∧
      (busyIn .poweringUp).fsm = .poweringUp ∧ decodePacket cfg (busyIn .poweringUp).pkt = .ok (.pktDumb 9 .low)) ∧
    ((tickWith Inputs.quiet 0 { burstStart with pidx := 25 }).inputs.rst = false ∧
      (∃ t, exec .sym0 (tickWith Inputs.quiet 0 { burstStart with pidx := 25 }) = .next t) ∧
      (tickWith Inputs.quiet 0 burstStart).inputs.cmdValid = false ∧ burstStart.fsm = .transmitting ∧
      locateSymbol cfg (packetSymbols packet9) 25 = some (.sym0, 1) ∧ symbolInstr .sym0 = .sym0) :=
  ⟨⟨by decide, ⟨_, rfl⟩, by decide, by decide⟩,
   ⟨by decide, ⟨_, rfl⟩, by decide, by decide, by decide⟩,
   ⟨by decide, ⟨_, rfl⟩, by decide, by decide, by decide, by decide⟩⟩

theorem witness_ResetWins :
    (tickWith { Inputs.quiet with rst := true } 0 burstStart).inputs.rst = true := by decide

/-- One state and word for each of the four cases. -/
theorem witness_RejectedWordOnlySetsRej :
    Inputs.quiet.rst = false ∧ burstStart.fsm ≠ .idle ∧
    ({ hwIdle with claim := false, closed := true } : State).closed = true ∧
    decodeCommand 0x00000000 = .rejected .reservedOp ∧ decodeCommand 0x50000000 = .rejected .reservedOp ∧
    (State.reset.backend = .unselected ∧ decodeCommand 0x20990000 ≠ .ok .select ∧
      decodeCommand 0x20990000 ≠ .ok .close) ∧
    (∃ t, step { burstStart with env := { Inputs.quiet with cmdValid := false } :: [] } = .next t) ∧
    (∃ t, step { State.reset with env := { Inputs.quiet with cmdValid := false } :: [] } = .next t) :=
  ⟨by decide, by decide, by decide, by decide, by decide, by decide, ⟨_, rfl⟩, ⟨_, rfl⟩⟩

theorem witness_IdleWithoutWordIsStill :
    (tickWith Inputs.quiet 0 hwIdle).inputs.rst = false ∧ (tickWith Inputs.quiet 0 hwIdle).inputs.cmdValid = false ∧
    (tickWith Inputs.quiet 0 hwIdle).fsm = .idle := by decide

/-- Unselected with all probes 1, with one probe 0, and already selected. -/
theorem witness_SelectResult :
    (State.reset.fsm = .idle ∧ State.reset.closed = false ∧ State.reset.backend = .unselected ∧
      (tickWith (word 0x10000000 true true true) 0 State.reset).inputs.probeSdn = true) ∧
    (tickWith (word 0x10000000 true true false) 0 State.reset).inputs.probeSdn = false ∧
    (hwIdle.fsm = .idle ∧ hwIdle.closed = false ∧ hwIdle.backend ≠ .unselected) := by decide

theorem witness_CloseResult :
    (State.reset.fsm = .idle ∧ State.reset.closed = false ∧ ∃ t, exec .close State.reset = .next t) ∧
    burstStart.fsm ≠ .idle := ⟨⟨rfl, rfl, _, rfl⟩, by decide⟩

theorem witness_UnservedCommandResult :
    (∃ a f p, Instr.txd 9 (some 1) none = .txd a f p) ∧ burstStart.fsm ≠ .idle ∧
    (({ hwIdle with closed := true } : State).fsm = .idle ∧ ({ hwIdle with closed := true } : State).closed = true) ∧
    (State.reset.fsm = .idle ∧ State.reset.backend = .unselected ∧ Instr.txd 9 (some 1) none ≠ .select ∧
      Instr.txd 9 (some 1) none ≠ .close) :=
  ⟨⟨_, _, _, rfl⟩, by decide, by decide, by decide⟩

/-- The smallest illegal value of each operand. -/
theorem witness_TxdInvalidResult :
    hwIdle.fsm = .idle ∧ hwIdle.closed = false ∧ hwIdle.backend ≠ .unselected ∧
    16 ≤ (16 : BitVec 8).toNat ∧ (∃ f : BitVec 3, some (4 : BitVec 3) = some f ∧ 4 ≤ f.toNat) ∧
    (hwIdle.backend = .hardware ∧ ∃ p : BitVec 3, some (5 : BitVec 3) = some p ∧ 5 ≤ p.toNat) := by decide

/-- The largest legal value of each operand; and no power level. -/
theorem witness_TxdStartsUnderHardware :
    hwIdle.fsm = .idle ∧ hwIdle.closed = false ∧ hwIdle.backend = .hardware ∧ (15 : BitVec 8).toNat ≤ 15 ∧
    fanNamed (3 : BitVec 3).toNat = some .high ∧ (∀ p : BitVec 3, some (4 : BitVec 3) = some p → p.toNat ≤ 4) ∧
    (∀ p : BitVec 3, none = some p → p.toNat ≤ 4) := by decide

theorem witness_TxdUnderDummy :
    dummyIdle.fsm = .idle ∧ dummyIdle.closed = false ∧ dummyIdle.backend = .dummy ∧ (15 : BitVec 8).toNat ≤ 15 ∧
    (3 : BitVec 3).toNat ≤ 3 := by decide

/-- The smallest illegal value of each operand. -/
theorem witness_TxsInvalidResult :
    dummyIdle.fsm = .idle ∧ dummyIdle.closed = false ∧ dummyIdle.backend ≠ .unselected ∧
    16 ≤ (16 : BitVec 8).toNat ∧ (4 : BitVec 3).toNat = 4 ∧
    ((⟨false, 101⟩ : LightField).lm = false ∧ 101 ≤ (⟨false, 101⟩ : LightField).lval.toNat) ∧
    ((⟨true, 2⟩ : LightField).lm = true ∧ 2 ≤ (⟨true, 2⟩ : LightField).lval.toNat) ∧
    (hwIdle.fsm = .idle ∧ hwIdle.closed = false ∧ hwIdle.backend = .hardware ∧ 5 ≤ (5 : BitVec 3).toNat) := by decide

/-- Supplied values at their bounds, and absent ones. -/
theorem witness_TxsStartsUnderHardware :
    hwIdle.fsm = .idle ∧ hwIdle.closed = false ∧ hwIdle.backend = .hardware ∧ (15 : BitVec 8).toNat ≤ 15 ∧
    smartFan (some 3) hwIdle = some .high ∧ smartFan none hwIdle = some .off ∧
    smartLight (some ⟨false, 100⟩) hwIdle = some (.level 100) ∧
    smartLight (some ⟨true, 1⟩) hwIdle = some (.onOff true) ∧ smartLight none hwIdle = some (.level 0) ∧
    (∀ p : BitVec 3, some (4 : BitVec 3) = some p → p.toNat ≤ 4) := by decide

theorem witness_TxsUnderDummy :
    dummyIdle.fsm = .idle ∧ dummyIdle.closed = false ∧ dummyIdle.backend = .dummy ∧ (15 : BitVec 8).toNat ≤ 15 ∧
    smartFan (some 3) dummyIdle = some .high ∧ smartLight (some ⟨false, 100⟩) dummyIdle = some (.level 100) ∧
    smartFan none dummyIdle = some .off ∧ smartLight none dummyIdle = some (.level 0) := by decide

theorem witness_PktDumbResult :
    hwIdle.fsm = .idle ∧ (busyIn .awaitingReady).fsm = .awaitingReady ∧
    (tickWith { Inputs.quiet with readyIn := true } 0 (busyIn .awaitingReady)).inputs.readyIn = true := by decide

theorem witness_PktSmartResult :
    hwIdle.fsm = .idle ∧
    ({ busyIn .awaitingReady with pkt := packet14, pendSmart := true } : State).fsm = .awaitingReady ∧
    (tickWith { Inputs.quiet with readyIn := true } 0
      { busyIn .awaitingReady with pkt := packet14, pendSmart := true }).inputs.readyIn = true := by decide

/-- Both pulses of `SYNC`. -/
theorem witness_SyncResult :
    (tickWith Inputs.quiet 0 burstStart).fsm = .transmitting ∧ (tickWith Inputs.quiet 0 burstStart).pidx < 2 ∧
    ({ burstStart with pidx := 1 } : State).pidx < 2 ∧
    (tickWith Inputs.quiet 0 burstStart).inputs.busErr = false := by decide

/-- The first and the last bit of the packet, each pulse. -/
theorem witness_SymZeroResult :
    burstStart.fsm = .transmitting ∧ burstStart.pkt[0]? = some false ∧ burstStart.pkt[11]? = some false ∧
    ({ burstStart with pidx := 2 } : State).pidx = 2 + 2 * 0 + 0 ∧
    ({ burstStart with pidx := 25 } : State).pidx = 2 + 2 * 11 + 1 ∧
    (tickWith Inputs.quiet 0 { burstStart with pidx := 25 }).inputs.busErr = false := by decide

theorem witness_SymOneResult :
    burstStart.fsm = .transmitting ∧ burstStart.pkt[1]? = some true ∧ burstStart.pkt[10]? = some true ∧
    ({ burstStart with pidx := 4 } : State).pidx = 2 + 2 * 1 + 0 ∧
    ({ burstStart with pidx := 23 } : State).pidx = 2 + 2 * 10 + 1 ∧
    (tickWith Inputs.quiet 0 { burstStart with pidx := 23 }).inputs.busErr = false := by decide

theorem witness_SymbolFailureResult :
    (burstStart.fsm = .transmitting ∧
      (tickWith { Inputs.quiet with busErr := true } 0 burstStart).inputs.busErr = true) ∧
    hwIdle.fsm ≠ .transmitting := by decide

theorem witness_PoweringUpStepResult :
    (busyIn .poweringUp).fsm = .poweringUp ∧
    (tickWith { Inputs.quiet with busErr := true } 0 { busyIn .poweringUp with pwrV := true }).inputs.rst = false ∧
    (tickWith { Inputs.quiet with busErr := true } 0 { busyIn .poweringUp with pwrV := true }).inputs.cmdValid = false := by
  decide

/-- Ready; the last sample of the wait; a sample before it. -/
theorem witness_AwaitingReadyStepResult :
    (busyIn .awaitingReady).fsm = .awaitingReady ∧
    (tickWith { Inputs.quiet with readyIn := true } 0 (busyIn .awaitingReady)).inputs.rst = false ∧
    (tickWith { Inputs.quiet with readyIn := true } 0 (busyIn .awaitingReady)).inputs.cmdValid = false ∧
    (tickWith { Inputs.quiet with readyIn := true } 0 (busyIn .awaitingReady)).inputs.readyIn = true ∧
    (tickWith Inputs.quiet 0 { busyIn .awaitingReady with timer := cfg.readyTimeout - 1 }).inputs.readyIn = false ∧
    ({ busyIn .awaitingReady with timer := cfg.readyTimeout - 1 } : State).timer + 1 ≥ cfg.readyTimeout :=
  ⟨by decide, by decide, by decide, by decide, by decide, by simp [cfg]⟩

theorem witness_TransmittingStepResult :
    burstStart.fsm = .transmitting ∧ (modulate cfg burstStart.pkt)[burstStart.pidx]? = some ⟨true, 4⟩ ∧
    (modulate cfg burstStart.pkt)[25]? = some ⟨false, 2⟩ ∧
    (tickWith Inputs.quiet 0 burstStart).inputs.rst = false ∧
    (tickWith Inputs.quiet 0 burstStart).inputs.cmdValid = false := by decide

theorem witness_PoweringDownStepResult :
    smartDown.fsm = .poweringDown ∧ smartDown.result = .none ∧
    (tickWith Inputs.quiet 0 smartDown).inputs.rst = false ∧
    (tickWith Inputs.quiet 0 smartDown).inputs.cmdValid = false ∧
    ({ smartDown with result := .hardwareTimeout } : State).result ≠ .none := by decide

theorem witness_LastvLayoutAndFail :
    smartDown.lastFan ∈ cfg.fanSet ∧ ({ smartDown with lastFan := .high } : State).lastFan ∈ cfg.fanSet := by decide

theorem witness_ErrorEntries : burstStart.fsm = .transmitting := by decide

/-- The burst's first state is safe, and in its ranges. -/
theorem burstStart_safe (e : List Inputs) : SafeState { burstStart with env := e } := by
  constructor <;> simp [burstStart, busyIn, hwIdle, State.reset, State.resetWith]

theorem waiting_safe (e : List Inputs) : SafeState { busyIn .awaitingReady with env := e } := by
  constructor <;> simp [busyIn, hwIdle, State.reset, State.resetWith]

theorem hwIdle_safe (e : List Inputs) : SafeState { hwIdle with env := e } := by
  constructor <;> simp [hwIdle, State.reset, State.resetWith]

theorem dummyIdle_safe (e : List Inputs) : SafeState { dummyIdle with env := e } := by
  constructor <;> simp [dummyIdle, State.reset, State.resetWith]

theorem burstStart_inFlight (e : List Inputs) : InFlight { burstStart with env := e } where
  packet := fun _ => ⟨9, by show packet9 = encodeDumb cfg 9 .low; decide⟩
  position := fun _ => ⟨by show 0 < (modulate cfg packet9).length; decide, by show 1 ≤ 4; decide, by
    show 4 ≤ pulseDuration (modulate cfg packet9) 0; decide⟩
  waiting := fun h => by cases h
  unsettled := fun _ => rfl
  leaving := fun h => by cases h

theorem waiting_inFlight (e : List Inputs) : InFlight { busyIn .awaitingReady with env := e } where
  packet := fun _ => ⟨9, by show packet9 = encodeDumb cfg 9 .low; decide⟩
  position := fun h => by cases h
  waiting := fun _ => by show 0 < cfg.readyTimeout; simp [cfg]
  unsettled := fun _ => rfl
  leaving := fun h => by cases h

theorem witness_StepKeepsSafeState :
    SafeState { burstStart with env := [Inputs.quiet] } ∧
    ∃ t, step { burstStart with env := [Inputs.quiet] } = .next t := ⟨burstStart_safe _, _, rfl⟩

theorem witness_StepKeepsInFlight :
    InFlight { burstStart with env := [Inputs.quiet] } ∧ FansInSet { burstStart with env := [Inputs.quiet] } ∧
    ∃ t, step { burstStart with env := [Inputs.quiet] } = .next t :=
  ⟨burstStart_inFlight _, ⟨by show FanCommand.off ∈ cfg.fanSet; decide, fun _ => by
    show FanCommand.low ∈ cfg.fanSet; decide⟩, _, rfl⟩

theorem witness_ReachableStatesAreSafe :
    ∃ t, run 1 { State.reset with env := [word 0x10000000 true true true], tick := 0 } = .next t := ⟨_, rfl⟩

/-- A word that starts a transmission, and one that does not. -/
theorem witness_StartsTransmission :
    StartsTransmission (give 0x20990060 hwIdle) ∧ ¬ StartsTransmission (give 0x20990060 dummyIdle) := by
  have hd : decodeCommand (give 0x20990060 hwIdle).inputs.cmd = .ok (.txd 9 (some 1) (some 4)) := by decide
  refine ⟨⟨rfl, rfl, rfl, ?_⟩, fun h => ?_⟩
  · rw [hd]
    exact ⟨by decide, ⟨1, rfl, by decide⟩, by decide⟩
  · have := h.2.2.1
    cases this

/-- A state in each of the five states of the machine. -/
theorem witness_TransitionsOfTheTable :
    ∀ m : Fsm, (tickWith Inputs.quiet 0 (busyIn m)).inputs.rst = false ∧
      ∃ t, step (tickWith { Inputs.quiet with readyIn := true } 0 (busyIn m)) = .next t := by
  intro m
  cases m <;> exact ⟨by decide, _, rfl⟩

theorem witness_BackendFixedAndFlagsSticky :
    (tickWith Inputs.quiet 0 dummyIdle).inputs.rst = false ∧
    (∃ t, step (tickWith Inputs.quiet 0 { dummyIdle with rej := true, closed := true }) = .next t) ∧
    dummyIdle.backend ≠ .unselected ∧ dummyIdle.warn = true :=
  ⟨by decide, ⟨_, rfl⟩, by decide, by decide⟩

/-- Each line moves somewhere. -/
theorem witness_LinesWrittenOnlyByTheirSteps :
    ((busyIn .poweringUp).en = false ∧ after (·.en) (step (tickWith Inputs.quiet 0 (busyIn .poweringUp))) = some true) ∧
    (smartDown.en = true ∧ after (·.en) (step (tickWith Inputs.quiet 0 smartDown)) = some false) ∧
    (burstStart.tx = false ∧ after (·.tx) (step (tickWith Inputs.quiet 0 burstStart)) = some true) := by decide

theorem witness_LastValuesChangeOnlyOnSuccess :
    (smartDown.lastFan = .off ∧ after (·.lastFan) (step (tickWith Inputs.quiet 0 smartDown)) = some .medium) ∧
    (dummyIdle.lastLight = .level 0 ∧
      after (·.lastLight) (step (give 0x30EAA580 dummyIdle)) = some (.level 75)) := by decide

theorem witness_DummyBackendDoesNoIO :
    SafeState (give 0x30EAA580 dummyIdle) ∧ (give 0x30EAA580 dummyIdle).backend = .dummy ∧
    (give 0x30EAA580 dummyIdle).env = word 0x30EAA580 false false false :: [] ∧
    (word 0x30EAA580 false false false).rst = false ∧ ∃ t, step (give 0x30EAA580 dummyIdle) = .next t :=
  ⟨dummyIdle_safe _, rfl, rfl, rfl, _, rfl⟩

theorem witness_ModeChanges :
    (mode State.reset = .unselected ∧
      after mode (step (tickWith (word 0x10000000 true true true) 0 State.reset)) = some .hardware ∧
      after mode (step (tickWith (word 0x10000000 true true false) 0 State.reset)) = some .dummy) ∧
    (mode hwIdle = .hardware ∧ after mode (step (give 0x40000000 hwIdle)) = some .closed) := by decide

theorem witness_DriverIsVariantBlind :
    smartDown.fsm ≠ .idle ∧ ∃ t, step (tickWith Inputs.quiet 0 smartDown) = .next t := ⟨by decide, _, rfl⟩

/-! For runs: the inputs of a state whose `env` is a number of equal ticks, after some first ones. -/

theorem inputsAt_replicate (s : State) (n k : Nat) (h : k < n) :
    inputsAt { s with env := List.replicate n Inputs.quiet } k = Inputs.quiet := by
  simp [inputsAt, h]

theorem waveform_packet9 : (waveform packet9).length = 44 := by decide

theorem witness_BurstEmitsWaveform :
    let s : State := { burstStart with env := List.replicate 44 Inputs.quiet }
    s.fsm = .transmitting ∧ s.pidx = 0 ∧ s.dcnt = pulseDuration (modulate cfg s.pkt) 0 ∧
    (∀ k, k < (waveform s.pkt).length → (inputsAt s k).rst = false ∧ (inputsAt s k).busErr = false) := by
  refine ⟨rfl, rfl, by decide, fun k hk => ?_⟩
  have hk : k < 44 := by rw [← waveform_packet9]; exact hk
  rw [inputsAt_replicate burstStart 44 k hk]
  exact ⟨rfl, rfl⟩

theorem witness_BusFailureIsPrecise :
    let s : State := tickWith { Inputs.quiet with busErr := true } 1 burstStart
    s.fsm = .transmitting ∧ s.inputs.rst = false ∧ s.inputs.busErr = true ∧ (inputsAt s 1).rst = false := by decide

theorem witness_ReadyWaitIsBounded :
    let s : State := { busyIn .awaitingReady with env := List.replicate cfg.readyTimeout Inputs.quiet }
    s.fsm = .awaitingReady ∧ s.timer = 0 ∧ (∀ k, k < cfg.readyTimeout → (inputsAt s k).rst = false) := by
  refine ⟨rfl, rfl, fun k hk => ?_⟩
  rw [inputsAt_replicate _ _ k hk]
  rfl

theorem witness_ReadyTimeoutRun :
    let s : State := { busyIn .awaitingReady with env := List.replicate (cfg.readyTimeout + 1) Inputs.quiet }
    SafeState s ∧ s.fsm = .awaitingReady ∧ s.timer = 0 ∧ s.result = .none ∧
    (∀ k, k < cfg.readyTimeout → (inputsAt s k).rst = false ∧ (inputsAt s k).readyIn = false) ∧
    (inputsAt s cfg.readyTimeout).rst = false := by
  refine ⟨waiting_safe _, rfl, rfl, rfl, fun k hk => ?_, ?_⟩
  · rw [inputsAt_replicate _ _ k (by omega)]
    exact ⟨rfl, rfl⟩
  · rw [inputsAt_replicate _ _ _ (by omega)]
    rfl

/-- `txd 9, low` accepted at the coming tick, ready at the first sample, and 48 quiet ticks after it. -/
def acceptThenReady : State :=
  { hwIdle with env := word 0x20990000 false false false :: Inputs.quiet :: { Inputs.quiet with readyIn := true } ::
      List.replicate 48 Inputs.quiet }

theorem acceptThenReady_later (k : Nat) (h : k < 48) : inputsAt acceptThenReady (3 + k) = Inputs.quiet := by
  rw [Nat.add_comm]
  simp [inputsAt, acceptThenReady, h, -List.reduceReplicate]

theorem witness_SuccessfulTransmissionTrace :
    ∃ s1, SafeState acceptThenReady ∧ acceptThenReady.fsm = .idle ∧ step acceptThenReady = .next s1 ∧
    s1.fsm = .poweringUp ∧ 1 ≤ 1 ∧ 1 ≤ cfg.readyTimeout ∧
    (∀ k, k < 3 + 1 + (waveform s1.pkt).length → (inputsAt acceptThenReady k).rst = false) ∧
    (s1.pwrV = true → (inputsAt acceptThenReady 1).busErr = false) ∧
    (∀ k, k < (waveform s1.pkt).length → (inputsAt acceptThenReady (2 + 1 + k)).busErr = false) ∧
    (∀ k, k + 1 < 1 → (inputsAt acceptThenReady (2 + k)).readyIn = false) ∧
    (inputsAt acceptThenReady (1 + 1)).readyIn = true := by
  have h0 : after (fun t => (t.fsm, (waveform t.pkt).length)) (step acceptThenReady) = some (.poweringUp, 44) := by
    decide
  have hn : ∃ s1, step acceptThenReady = .next s1 := ⟨_, rfl⟩
  obtain ⟨s1, hs⟩ := hn
  rw [hs] at h0
  simp only [after, Option.some.injEq, Prod.mk.injEq] at h0
  refine ⟨s1, hwIdle_safe _, rfl, hs, h0.1, le_refl _, by simp [cfg], fun k hk => ?_, fun _ => rfl, fun k hk => ?_,
    fun k hk => absurd hk (by omega), rfl⟩
  · rw [h0.2] at hk
    match k, hk with
    | 0, _ => rfl
    | 1, _ => rfl
    | 2, _ => rfl
    | k + 3, hk => rw [Nat.add_comm k 3, acceptThenReady_later k (by omega)]; rfl
  · rw [h0.2] at hk
    rw [acceptThenReady_later k (by omega)]
    rfl

theorem witness_BusyRunReachesIdle :
    let s : State := { busyIn .awaitingReady with env := List.replicate (3 + cfg.readyTimeout + 44) Inputs.quiet }
    InFlight s ∧ (∀ k, k < 3 + cfg.readyTimeout + (waveform s.pkt).length → (inputsAt s k).rst = false) := by
  refine ⟨waiting_inFlight _, fun k hk => ?_⟩
  have hk : k < 3 + cfg.readyTimeout + 44 := by rw [← waveform_packet9]; exact hk
  rw [inputsAt_replicate _ _ k hk]
  rfl

end Sys2Proof.Tests
end

/-! PROOFS. A step is the dispatch of 43_backend.md R215: running the word that `fetch` finds is the tick R215 writes,
in every state and for every configuration. Claims about `step` are then claims about `dispatchTick`. -/

namespace Sys2Proof.Safety

open Sys2Proof.Machine

/-- Every arm of `exec` is the tick on its word with the parameters `cfg`. -/
theorem exec_eq_wordTick (i : Instr) (s : State) : exec i s = .next (wordTick cfg i s) := by
  cases i <;> rfl

/-! ### The symbol under the position -/

theorem modulate_eq_flatMap (c : Config) (b : Bits) : modulate c b = (packetSymbols b).flatMap (symbolPulses c) := by
  simp [modulate, packetSymbols, List.flatMap_map, symbolPulses]

/-- The pulse at a place found by `locateSymbol` is the pulse of the whole sequence at the position looked for. -/
theorem getElem?_flatMap_of_locateSymbol (c : Config) (ys : List Symbol) (k : Nat) {y : Symbol} {j : Nat}
    (h : locateSymbol c ys k = some (y, j)) : (ys.flatMap (symbolPulses c))[k]? = (symbolPulses c y)[j]? := by
  induction ys generalizing k with
  | nil => simp [locateSymbol] at h
  | cons z ys ih =>
    rw [List.flatMap_cons]
    by_cases hk : k < (symbolPulses c z).length
    · have hz : z = y ∧ k = j := by simpa [locateSymbol, hk] using h
      obtain ⟨rfl, rfl⟩ := hz
      exact List.getElem?_append_left hk
    · rw [List.getElem?_append_right (Nat.le_of_not_lt hk)]
      exact ih _ (by simpa [locateSymbol, hk] using h)

/-- The level of the symbol under the position is the level of the pulse at the position (41_modulator.md R156). -/
theorem symbolLevel_eq_currentLevel {c : Config} {s : State} {y : Symbol} {j : Nat} (h : symbolAt c s = some (y, j)) :
    symbolLevel c y s = currentLevel c s := by
  have hp : (modulate c s.pkt)[s.pidx]? = (symbolPulses c y)[j]? := by
    rw [modulate_eq_flatMap]
    exact getElem?_flatMap_of_locateSymbol c _ _ h
  simp only [symbolLevel, currentLevel, h, hp, Option.bind_some]

/-! ### The word that is fetched -/

/-- Where the word of a tick comes from. -/
theorem fetch_eq_some_cases {c : Config} {s : State} {i : Instr} (h : fetch c s = some i) :
    (s.inputs.cmdValid = true ∧ decodeCommand s.inputs.cmd = .ok i) ∨
    (s.inputs.cmdValid = false ∧ s.fsm = .transmitting ∧ ∃ y j, symbolAt c s = some (y, j) ∧ i = symbolInstr y) ∨
    (s.inputs.cmdValid = false ∧ s.fsm ≠ .idle ∧ decodePacket c s.pkt = .ok i) := by
  unfold fetch at h
  cases hc : s.inputs.cmdValid with
  | true => exact .inl ⟨rfl, Decoded.instr?_eq_some.1 (by simpa [hc] using h)⟩
  | false =>
    simp only [hc, Bool.false_eq_true, if_false] at h
    cases hf : s.fsm with
    | idle => simp [hf] at h
    | transmitting =>
      simp only [hf, Option.map_eq_some_iff] at h
      obtain ⟨⟨y, j⟩, hy, rfl⟩ := h
      exact .inr (.inl ⟨rfl, rfl, y, j, hy, rfl⟩)
    | poweringUp | awaitingReady | poweringDown =>
      rw [hf] at h
      exact .inr (.inr ⟨rfl, by simp, Decoded.instr?_eq_some.1 h⟩)

/-- A command word in Idle, not closed, is served by its operation; else it is rejected (43_backend.md R215, R216). -/
theorem wordTick_of_decodeCommand {c : Config} {s : State} {i : Instr} (hr : s.inputs.rst = false)
    (hv : s.inputs.cmdValid = true) (hd : decodeCommand s.inputs.cmd = .ok i) : wordTick c i s = dispatchTick c s := by
  have hp : ∀ accept : State → State, (s.fsm = .idle → s.closed = false → accept s = dispatchTick c s) →
      presented c accept s = dispatchTick c s := by
    intro accept ha
    rcases presented_cases c accept s with ⟨hi, h⟩ | ⟨hi, hc, h⟩ | ⟨hi, hc, h⟩
    · rw [h, dispatchTick_busy_word hr hi hv]
    · simp [h, dispatchTick, hr, hi, hv, hc]
    · rw [h, ha hi hc]
  rcases decodeCommand_ok hd with rfl | rfl | ⟨a, f, p, rfl⟩ | ⟨a, f, l, p, rfl⟩ <;>
    exact hp _ fun hi hc => by simp [dispatchTick, hr, hi, hv, hc, hd]

/-- The symbol under the position, run as a word, is the Transmitting step (assumption 9). -/
theorem wordTick_symbolInstr {c : Config} {s : State} {y : Symbol} {j : Nat} (hf : s.fsm = .transmitting)
    (hy : symbolAt c s = some (y, j)) : wordTick c (symbolInstr y) s = fsmStep c s := by
  have hw : wordTick c (symbolInstr y) s = symbolTick c y s := by cases y <;> rfl
  rw [hw, symbolTick, if_pos hf, symbolLevel_eq_currentLevel hy, fsmStep_of_transmitting c hf]

/-- The packet in `PKT`, run as a word, is the step of `FSM` (assumption 8). -/
theorem wordTick_of_decodePacket {c : Config} {s : State} {i : Instr} (hd : decodePacket c s.pkt = .ok i) :
    wordTick c i s = fsmStep c s := by
  have hp : packetTick c s.pkt s = fsmStep c s := rfl
  rcases decodePacket_ok hd with ⟨a, f, rfl, hb⟩ | ⟨a, f, l, rfl, hb⟩ <;> simpa [wordTick, ← hb] using hp

/-- The word of a tick does what the dispatch of R215 does. -/
theorem wordTick_of_fetch {c : Config} {s : State} {i : Instr} (hr : s.inputs.rst = false) (h : fetch c s = some i) :
    wordTick c i s = dispatchTick c s := by
  rcases fetch_eq_some_cases h with ⟨hv, hd⟩ | ⟨hv, hf, y, j, hy, rfl⟩ | ⟨hv, hi, hd⟩
  · exact wordTick_of_decodeCommand hr hv hd
  · rw [wordTick_symbolInstr hf hy, dispatchTick_busy hr (by simp [hf]) hv]
  · rw [wordTick_of_decodePacket hd, dispatchTick_busy hr hi hv]

/-- A tick without an instruction does what the dispatch of R215 does. -/
theorem wordlessTick_of_fetch_none {c : Config} {s : State} (hr : s.inputs.rst = false) (h : fetch c s = none) :
    wordlessTick c s = dispatchTick c s := by
  cases hv : s.inputs.cmdValid with
  | false =>
    by_cases hi : s.fsm = .idle
    · simp [wordlessTick, dispatchTick, hr, hv, hi, fsmStep_of_idle c hi]
    · simp [wordlessTick, hv, dispatchTick_busy hr hi hv]
  | true =>
    cases hd : decodeCommand s.inputs.cmd with
    | ok i => simp [fetch, hv, hd, Decoded.instr?] at h
    | rejected e =>
      by_cases hi : s.fsm = .idle
      · simp [wordlessTick, rejected, dispatchTick, hr, hv, hi, hd, fsmStep_of_idle c (s := reject s) hi]
      · simp [wordlessTick, rejected, hv, dispatchTick_busy_word hr hi hv]

/-- Every step is the dispatch of one tick. -/
theorem step_eq_dispatchTick (s : State) : step s = .next (advance (dispatchTick cfg s)) := by
  unfold step
  cases hr : s.inputs.rst with
  | true => rw [dispatchTick_reset hr]; rfl
  | false =>
    cases hf : fetch cfg s with
    | none => simp [endTick, wordlessTick_of_fetch_none hr hf]
    | some i => simp [endTick, exec_eq_wordTick, wordTick_of_fetch hr hf]

/-- The next state, where a statement names it. -/
theorem eq_of_step {s t : State} (h : step s = .next t) : t = advance (dispatchTick cfg s) := by
  rw [step_eq_dispatchTick] at h
  exact (Host.Outcome.next.inj h).symm

end Sys2Proof.Safety

/-! PROOFS. What one tick leaves unchanged and where it writes, for the flags, the lines and the last-known values. -/

namespace Sys2Proof.Safety

open Sys2Proof.Machine

/-- All that a Transmitting step can do (42_handshake.md R178, R179). -/
theorem fsmStep_transmitting_cases (c : Config) {s : State} (hf : s.fsm = .transmitting) :
    (s.inputs.busErr = true ∧ fsmStep c s = raise .transmissionFailed s) ∨
    (s.inputs.busErr = false ∧ 1 < s.dcnt ∧ fsmStep c s = countTick (emit (currentLevel c s) s)) ∨
    (s.inputs.busErr = false ∧ s.dcnt ≤ 1 ∧ s.pidx + 1 < (modulate c s.pkt).length ∧
      fsmStep c s = nextPulse (pulseDuration (modulate c s.pkt) (s.pidx + 1)) (emit (currentLevel c s) s)) ∨
    (s.inputs.busErr = false ∧ s.dcnt ≤ 1 ∧ (modulate c s.pkt).length ≤ s.pidx + 1 ∧
      fsmStep c s = endBurst (emit (currentLevel c s) s)) := by
  rw [fsmStep_of_transmitting c hf]
  rcases emitTick_cases c (currentLevel c s) s with ⟨he, h⟩ | ⟨he, h⟩
  · exact .inl ⟨he, h⟩
  · rw [h]
    rcases advancePulse_cases c (emit (currentLevel c s) s) with ⟨hd, h⟩ | ⟨hd, hp, h⟩ | ⟨hd, hp, h⟩
    · exact .inr (.inl ⟨he, hd, h⟩)
    · exact .inr (.inr (.inl ⟨he, hd, hp, h⟩))
    · exact .inr (.inr (.inr ⟨he, hd, hp, h⟩))

/-! ### The lines in the steps of the busy states (10_state.md R36; 42_handshake.md R175 to R180) -/

theorem fsmStep_lines_of_poweringUp (c : Config) {s : State} (hf : s.fsm = .poweringUp) :
    ((fsmStep c s).fsm = .awaitingReady ∨ (fsmStep c s).fsm = .poweringDown) ∧
    (fsmStep c s).en = true ∧ (fsmStep c s).tx = s.tx := by
  rw [fsmStep_of_poweringUp c hf]
  rcases poweringUpStep_cases s with ⟨_, _, h⟩ | ⟨_, h⟩ <;> simp [h, hf]

theorem fsmStep_lines_of_awaitingReady (c : Config) {s : State} (hf : s.fsm = .awaitingReady) :
    ((fsmStep c s).fsm = .awaitingReady ∨ (fsmStep c s).fsm = .transmitting ∨ (fsmStep c s).fsm = .poweringDown) ∧
    (fsmStep c s).en = s.en ∧ (fsmStep c s).tx = s.tx := by
  rw [fsmStep_of_awaitingReady c hf]
  rcases awaitingReadyStep_cases c s with ⟨_, h⟩ | ⟨_, _, h⟩ | ⟨_, _, h⟩ <;> simp [h, hf]

theorem fsmStep_lines_of_transmitting (c : Config) {s : State} (hf : s.fsm = .transmitting) :
    ((fsmStep c s).fsm = .transmitting ∨ (fsmStep c s).fsm = .poweringDown) ∧ (fsmStep c s).en = s.en := by
  rcases fsmStep_transmitting_cases c hf with ⟨_, h⟩ | ⟨_, _, h⟩ | ⟨_, _, _, h⟩ | ⟨_, _, _, h⟩ <;> simp [h, hf]

theorem fsmStep_lines_of_poweringDown (c : Config) {s : State} (hf : s.fsm = .poweringDown) :
    (fsmStep c s).fsm = .idle ∧ (fsmStep c s).en = false ∧ (fsmStep c s).tx = false := by
  rw [fsmStep_of_poweringDown c hf]
  rcases returnToIdle_cases s with ⟨_, h⟩ | ⟨_, h⟩ <;> simp [h]

/-! ### The last-known values in the step of a busy state (42_handshake.md R180) -/

/-- Only a PoweringDown step that ends a smart transmission `Ok` writes the last-known values. -/
theorem fsmStep_last_cases (c : Config) (s : State) :
    ((fsmStep c s).lastFan = s.lastFan ∧ (fsmStep c s).lastLight = s.lastLight) ∨
    (s.fsm = .poweringDown ∧ s.result = .none ∧ s.pendSmart = true ∧ (fsmStep c s).result = .ok) := by
  cases hf : s.fsm with
  | idle => simp [fsmStep_of_idle c hf]
  | poweringUp =>
    rw [fsmStep_of_poweringUp c hf]
    rcases poweringUpStep_cases s with ⟨_, _, h⟩ | ⟨_, h⟩ <;> simp [h]
  | awaitingReady =>
    rw [fsmStep_of_awaitingReady c hf]
    rcases awaitingReadyStep_cases c s with ⟨_, h⟩ | ⟨_, _, h⟩ | ⟨_, _, h⟩ <;> simp [h]
  | transmitting =>
    rcases fsmStep_transmitting_cases c hf with ⟨_, h⟩ | ⟨_, _, h⟩ | ⟨_, _, _, h⟩ | ⟨_, _, _, h⟩ <;> simp [h]
  | poweringDown =>
    rw [fsmStep_of_poweringDown c hf]
    rcases returnToIdle_cases s with ⟨hn, h⟩ | ⟨_, h⟩
    · cases hp : s.pendSmart <;> simp [h, hn, hp]
    · simp [h]

/-! ### A tick in Idle -/

/-- No operation dispatched in Idle writes a line. -/
theorem dispatchTick_lines_of_idle (c : Config) {s : State} (hr : s.inputs.rst = false) (hi : s.fsm = .idle) :
    (dispatchTick c s).en = s.en ∧ (dispatchTick c s).tx = s.tx := by
  rcases dispatchTick_idle_cases c s hr hi with h | ⟨_, h⟩ | ⟨_, _, _, _, _, h⟩ | ⟨_, _, _, _, _, h⟩ |
    ⟨_, _, _, h⟩ | ⟨_, _, _, h⟩ | ⟨_, _, _, _, f, l, h⟩ | ⟨_, _, _, _, f, l, _, h⟩ | ⟨_, _, _, _, a, f, p, _, h⟩ |
    ⟨_, _, _, _, a, f, l, p, _, h⟩ <;> simp [h]

/-- Only a TXS under the Dummy Backend writes the last-known values in Idle (43_backend.md R218). -/
theorem dispatchTick_last_cases_of_idle (c : Config) {s : State} (hr : s.inputs.rst = false) (hi : s.fsm = .idle) :
    ((dispatchTick c s).lastFan = s.lastFan ∧ (dispatchTick c s).lastLight = s.lastLight) ∨
    (s.backend = .dummy ∧ s.inputs.cmdValid = true ∧ (∃ a f l p, decodeCommand s.inputs.cmd = .ok (.txs a f l p)) ∧
      (dispatchTick c s).result = .ok) := by
  rcases dispatchTick_idle_cases c s hr hi with h | ⟨_, h⟩ | ⟨_, _, _, _, _, h⟩ | ⟨_, _, _, _, _, h⟩ |
    ⟨_, _, _, h⟩ | ⟨_, _, _, h⟩ | ⟨_, _, _, _, f, l, h⟩ | ⟨hv, _, hb, hd, f, l, _, h⟩ | ⟨_, _, _, _, a, f, p, _, h⟩ |
    ⟨_, _, _, _, a, f, l, p, _, h⟩
  -- the eighth case is the TXS under the Dummy Backend; the others leave both values
  on_goal 8 => exact .inr ⟨hb, hv, hd, by simp [h]⟩
  all_goals exact .inl (by simp [h])

/-- From `s` to `t` a chosen backend has not changed, and none of `WARN`, `REJ`, `CLOSED` has gone from 1 to 0. -/
structure FlagsKept (s t : State) : Prop where
  backend : s.backend ≠ .unselected → t.backend = s.backend
  warn : s.warn = true → t.warn = true
  rej : s.rej = true → t.rej = true
  closed : s.closed = true → t.closed = true

/-- Every tick without reset keeps a chosen backend and the sticky flags (10_state.md R31, R33). -/
theorem dispatchTick_flagsKept (c : Config) {s : State} (hr : s.inputs.rst = false) :
    FlagsKept s (dispatchTick c s) := by
  by_cases hi : s.fsm = .idle
  · -- SELECT writes `BACKEND` where it is Unselected; no operation clears a flag
    rcases dispatchTick_idle_cases c s hr hi with h | ⟨_, h⟩ | ⟨_, _, _, hb, _, h⟩ | ⟨_, _, _, hb, _, h⟩ |
      ⟨_, _, _, h⟩ | ⟨_, _, _, h⟩ | ⟨_, _, _, _, f, l, h⟩ | ⟨_, _, _, _, f, l, _, h⟩ | ⟨_, _, _, _, a, f, p, _, h⟩ |
      ⟨_, _, _, _, a, f, l, p, _, h⟩ <;> rw [h] <;> constructor <;> simp_all
  · obtain ⟨b, h, hrej⟩ := dispatchTick_busy_cases c s hr hi
    obtain ⟨hb, hw, _, hc, _⟩ := fsmStep_keeps c s
    rw [h]
    exact ⟨fun _ => hb, fun hs => hw.trans hs, hrej, fun hs => hc.trans hs⟩

/-- Settles O49: what the dispatch keeps, the step keeps. -/
theorem backendFixedAndFlagsSticky : Obligations.BackendFixedAndFlagsSticky := by
  intro s t hr h
  obtain rfl := eq_of_step h
  obtain ⟨hb, hw, hj, hc⟩ := dispatchTick_flagsKept cfg hr
  exact ⟨hb, hw, hj, hc⟩

/-- Settles O50: no Idle tick writes a line, and each busy state's step writes its own lines only. -/
theorem linesWrittenOnlyByTheirSteps : Obligations.LinesWrittenOnlyByTheirSteps := by
  intro s t hr h
  obtain rfl := eq_of_step h
  simp only [advance_en, advance_tx]
  by_cases hi : s.fsm = .idle
  · obtain ⟨hen, htx⟩ := dispatchTick_lines_of_idle cfg hr hi
    simp +contextual [hen, htx]
  · obtain ⟨b, h, _⟩ := dispatchTick_busy_cases cfg s hr hi
    simp only [h]
    cases hf : s.fsm with
    | idle => exact absurd hf hi
    | poweringUp => simp [fsmStep_lines_of_poweringUp cfg hf]
    | awaitingReady => simp +contextual [fsmStep_lines_of_awaitingReady cfg hf]
    | transmitting => simp +contextual [fsmStep_lines_of_transmitting cfg hf]
    | poweringDown => simp [fsmStep_lines_of_poweringDown cfg hf]

/-- Settles O51: the two writers of the last-known values are the ones the statement names. -/
theorem lastValuesChangeOnlyOnSuccess : Obligations.LastValuesChangeOnlyOnSuccess := by
  intro s t hr h hne
  obtain rfl := eq_of_step h
  simp only [advance_lastFan, advance_lastLight, advance_result] at hne ⊢
  by_cases hi : s.fsm = .idle
  · rcases dispatchTick_last_cases_of_idle cfg hr hi with ⟨hlf, hll⟩ | ⟨hb, hv, hd, hok⟩
    · exact absurd hne (by simp [hlf, hll])
    · exact ⟨hok, .inr ⟨hi, hb, hv, hd⟩⟩
  · obtain ⟨b, h, _⟩ := dispatchTick_busy_cases cfg s hr hi
    simp only [h] at hne ⊢
    rcases fsmStep_last_cases cfg s with ⟨hlf, hll⟩ | ⟨hf, hn, hp, hok⟩
    · exact absurd hne (by simp [hlf, hll])
    · exact ⟨hok, .inl ⟨hf, hn, hp⟩⟩

end Sys2Proof.Safety

/-! PROOFS. The invariants of 10_state.md R43: they hold after reset, every step keeps them, and so every reachable state
has them. -/

namespace Sys2Proof.Safety

open Sys2Proof.Machine

/-- The invariants speak of seven registers only: a state with the same ones is as safe. -/
theorem SafeState.congr {s t : State} (hs : SafeState s) (hfsm : t.fsm = s.fsm := by rfl) (hen : t.en = s.en := by rfl)
    (htx : t.tx = s.tx := by rfl) (hb : t.backend = s.backend := by rfl) (hw : t.warn = s.warn := by rfl)
    (hc : t.closed = s.closed := by rfl) (hcl : t.claim = s.claim := by rfl) : SafeState t := by
  obtain ⟨h1, h2, h3, h4, h5, h6, h7⟩ := hs
  constructor <;> simpa only [hfsm, hen, htx, hb, hw, hc, hcl]

/-- The state after reset is safe, for every configuration (10_state.md R44). -/
theorem safeState_resetWith (c : Config) : SafeState (State.resetWith c) := by
  constructor <;> simp [State.resetWith]

/-- In Idle with the lines low the invariants are relations of the flags. -/
theorem safeState_of_idle {s : State} (hf : s.fsm = .idle) (hen : s.en = false) (htx : s.tx = false)
    (hclaim : s.claim = true ↔ s.backend = .hardware ∧ s.closed = false)
    (hwarn : s.warn = true ↔ s.backend = .dummy) : SafeState s where
  idle_safe _ := ⟨hen, htx⟩
  not_hardware_quiet hb := ⟨hf, hen, htx, by simpa [hb] using hclaim⟩
  claim_iff := hclaim
  warn_iff := hwarn
  en_iff := by simp [hen, hf]
  tx_only := by simp [htx]
  closed_idle _ := hf

/-- The lines are those of `FSM` (10_state.md R43 (e), (f)). -/
def LinesFit (s : State) : Prop :=
  (s.en = true ↔ s.fsm = .awaitingReady ∨ s.fsm = .transmitting ∨ s.fsm = .poweringDown) ∧
  (s.tx = true → s.fsm = .transmitting ∨ s.fsm = .poweringDown)

/-- Under Hardware and not closed the invariants are relations of `FSM` and the lines. -/
theorem safeState_of_hardware {s : State} (hb : s.backend = .hardware) (hc : s.closed = false) (hclaim : s.claim = true)
    (hw : s.warn = false) (hl : LinesFit s) : SafeState s where
  idle_safe hf := ⟨by simpa [hf] using hl.1, by simpa [hf] using hl.2⟩
  not_hardware_quiet hn := absurd hb hn
  claim_iff := by simp [hclaim, hb, hc]
  warn_iff := by simp [hw, hb]
  en_iff := hl.1
  tx_only := hl.2
  closed_idle := by simp [hc]

/-- Only an open Hardware backend is ever busy (10_state.md R43 (b), (c), (d), (g)). -/
theorem SafeState.of_busy {s : State} (hs : SafeState s) (hi : s.fsm ≠ .idle) :
    s.backend = .hardware ∧ s.closed = false ∧ s.claim = true ∧ s.warn = false := by
  have hb : s.backend = .hardware := by
    by_contra hn
    exact hi (hs.not_hardware_quiet hn).1
  have hc : s.closed = false := by
    by_contra hn
    exact hi (hs.closed_idle (by simpa using hn))
  exact ⟨hb, hc, hs.claim_iff.2 ⟨hb, hc⟩, by simpa [hb] using hs.warn_iff⟩

/-- The step of a busy state leaves the lines as its next state has them. -/
theorem LinesFit.fsmStep {s : State} (hl : LinesFit s) (c : Config) (hi : s.fsm ≠ .idle) : LinesFit (fsmStep c s) := by
  obtain ⟨hen, htx⟩ := hl
  unfold LinesFit
  cases hf : s.fsm with
  | idle => exact absurd hf hi
  | poweringUp =>
    have htx : s.tx = false := by simpa [hf] using htx
    obtain ⟨hf' | hf', hen', htx'⟩ := fsmStep_lines_of_poweringUp c hf <;> simp [hf', hen', htx', htx]
  | awaitingReady =>
    have hen : s.en = true := by simpa [hf] using hen
    have htx : s.tx = false := by simpa [hf] using htx
    obtain ⟨hf' | hf' | hf', hen', htx'⟩ := fsmStep_lines_of_awaitingReady c hf <;> simp [hf', hen', htx', hen, htx]
  | transmitting =>
    have hen : s.en = true := by simpa [hf] using hen
    obtain ⟨hf' | hf', hen'⟩ := fsmStep_lines_of_transmitting c hf <;> simp [hf', hen', hen]
  | poweringDown =>
    obtain ⟨hf', hen', htx'⟩ := fsmStep_lines_of_poweringDown c hf
    simp [hf', hen', htx']

/-- The step of `FSM` keeps the invariants. -/
theorem SafeState.fsmStep {s : State} (hs : SafeState s) (c : Config) : SafeState (fsmStep c s) := by
  by_cases hi : s.fsm = .idle
  · rwa [fsmStep_of_idle c hi]
  · obtain ⟨hb, hc, hclaim, hw⟩ := hs.of_busy hi
    obtain ⟨kb, kw, _, kc, kcl, _⟩ := fsmStep_keeps c s
    have hl : LinesFit s := ⟨hs.en_iff, hs.tx_only⟩
    exact safeState_of_hardware (kb.trans hb) (kc.trans hc) (kcl.trans hclaim) (kw.trans hw) (hl.fsmStep c hi)

/-- An accepted transmission leaves Idle with the lines still low. -/
theorem SafeState.beginTransmission {s : State} (hs : SafeState s) (hi : s.fsm = .idle) (hb : s.backend = .hardware)
    (hc : s.closed = false) (b : Bits) (m : Bool) (f : FanCommand) (l : LightCommand) (p : Option (BitVec 3)) :
    SafeState (beginTransmission b m f l p s) := by
  obtain ⟨hen, htx⟩ := hs.idle_safe hi
  have hw : s.warn = false := by simpa [hb] using hs.warn_iff
  exact safeState_of_hardware hb hc (hs.claim_iff.2 ⟨hb, hc⟩) hw ⟨by simp [hen], by simp [htx]⟩

/-- Every operation dispatched in Idle keeps the invariants. -/
theorem SafeState.dispatchTick_of_idle {s : State} (hs : SafeState s) (c : Config) (hr : s.inputs.rst = false)
    (hi : s.fsm = .idle) : SafeState (dispatchTick c s) := by
  obtain ⟨hen, htx⟩ := hs.idle_safe hi
  have hwarn := hs.warn_iff
  rcases dispatchTick_idle_cases c s hr hi with h | ⟨_, h⟩ | ⟨_, hc, _, hb, _, h⟩ | ⟨_, _, _, _, _, h⟩ |
    ⟨_, _, _, h⟩ | ⟨_, _, _, h⟩ | ⟨_, _, _, _, f, l, h⟩ | ⟨_, _, _, _, f, l, _, h⟩ | ⟨_, hc, hb, _, a, f, p, _, h⟩ |
    ⟨_, hc, hb, _, a, f, l, p, _, h⟩ <;> rw [h]
  · exact hs
  · exact hs.congr
  · exact safeState_of_idle hi hen htx (by simp [hc]) (by simpa [hb] using hwarn)
  · exact safeState_of_idle hi hen htx (by simp) (by simp)
  · exact safeState_of_idle hi hen htx (by simp) hwarn
  · exact hs.congr
  · exact hs.congr
  · exact hs.congr
  · exact hs.beginTransmission hi hb hc ..
  · exact hs.beginTransmission hi hb hc ..

theorem SafeState.dispatchTick {s : State} (hs : SafeState s) (c : Config) : SafeState (dispatchTick c s) := by
  cases hr : s.inputs.rst with
  | true =>
    rw [dispatchTick_reset hr]
    exact (safeState_resetWith c).congr
  | false =>
    by_cases hi : s.fsm = .idle
    · exact hs.dispatchTick_of_idle c hr hi
    · obtain ⟨b, h, _⟩ := dispatchTick_busy_cases c s hr hi
      rw [h]
      exact (hs.fsmStep c).congr

/-- Every step keeps the invariants of 10_state.md R43. -/
theorem SafeState.step {s t : State} (hs : SafeState s) (h : step s = .next t) : SafeState t := by
  obtain rfl := eq_of_step h
  exact (hs.dispatchTick cfg).congr

/-- What every step keeps holds at the end of every run. -/
theorem run_invariant {P : State → Prop} (hstep : ∀ s t, P s → step s = .next t → P t) {k : Nat} {s t : State}
    (hs : P s) (h : run k s = .next t) : P t := by
  induction k generalizing s with
  | zero => exact Host.Outcome.next.inj h ▸ hs
  | succ k ih =>
    have hn := step_eq_dispatchTick s
    rw [run_succ k s _ hn] at h
    exact ih (hstep _ _ hs hn) h

/-- Settles O46: R43 holds after reset, and every step keeps it. -/
theorem reachableStatesAreSafe : Obligations.ReachableStatesAreSafe := fun _ _ _ _ h =>
  run_invariant (fun _ _ hs => hs.step) (safeState_resetWith cfg).congr h

end Sys2Proof.Safety

/-! PROOFS. The words the outside reads: `STATUS`, `LASTV`, `FAIL` (10_state.md R34, R35, R38), and what they are after
reset (R44). -/

namespace Sys2Proof.Machine

/-! ### The fields of `STATUS` -/

/-- Each place of `STATUS` read as a bit field holds what the layout puts there. -/
theorem status_fields (s : State) :
    (status s).extractLsb' 0 3 = resultCode s.result ∧ (status s).extractLsb' 3 1 = BitVec.ofBool (busy s) ∧
    (status s).extractLsb' 4 2 = backendCode s.backend ∧ (status s).extractLsb' 6 1 = BitVec.ofBool s.warn ∧
    (status s).extractLsb' 7 1 = BitVec.ofBool s.rej ∧ (status s).extractLsb' 8 1 = BitVec.ofBool s.closed ∧
    (status s).extractLsb' 9 1 = BitVec.ofBool s.claim ∧ (status s).extractLsb' 10 3 = fsmCode s.fsm ∧
    (status s).extractLsb' 13 3 = 0 := by
  refine ⟨?_, ?_, ?_, ?_, ?_, ?_, ?_, ?_, ?_⟩ <;>
    simp (disch := decide) only [status, BitVec.extractLsb'_append_eq_of_le, BitVec.extractLsb'_append_eq_of_add_le,
      BitVec.extractLsb'_eq_self, Nat.reduceSub]

/-- A field of one bit is that bit. -/
theorem getLsbD_of_extractLsb'_one {n k : Nat} {x : BitVec n} {b : Bool} (h : x.extractLsb' k 1 = BitVec.ofBool b) :
    x.getLsbD k = b := by
  simpa using congrArg (BitVec.getLsbD · 0) h

theorem busy_iff (s : State) : busy s = true ↔ s.fsm ≠ .idle := by simp [busy]

/-! ### `LASTV` and `FAIL` -/

theorem lastv_fields (c : Config) (s : State) :
    (lastv c s).extractLsb' 8 2 = (fanCode c s.lastFan).extractLsb' 0 2 ∧
    (lastv c s).extractLsb' 0 8 = light8 s.lastLight := by
  constructor <;>
    simp (disch := decide) only [lastv, BitVec.extractLsb'_append_eq_of_le, BitVec.extractLsb'_append_eq_of_add_le,
      BitVec.extractLsb'_eq_self, Nat.reduceSub]

/-- The two bits `LASTV` has for it are the whole code of a member of `FAN_SET`. -/
theorem setWidth_extractLsb'_fanCode {f : FanCommand} (h : f ∈ cfg.fanSet) :
    ((fanCode cfg f).extractLsb' 0 2).setWidth 3 = fanCode cfg f := by
  rcases mem_fanSet.1 h with rfl | rfl | rfl | rfl <;> decide

theorem fail_iff (s : State) :
    fail s = true ↔ s.result = .invalidCommand ∨ s.result = .hardwareTimeout ∨ s.result = .transmissionFailed := by
  unfold fail
  cases s.result <;> simp

/-- Settles O42: the layout by its fields, the flags as fields of one bit. -/
theorem statusLayout : Obligations.StatusLayout := by
  refine ⟨rfl, rfl, rfl, fun s => ?_⟩
  obtain ⟨hresult, hbusy, hbackend, hwarn, hrej, hclosed, hclaim, hfsm, hzero⟩ := status_fields s
  refine ⟨hresult, ?_, hbackend, getLsbD_of_extractLsb'_one hwarn, getLsbD_of_extractLsb'_one hrej,
    getLsbD_of_extractLsb'_one hclosed, getLsbD_of_extractLsb'_one hclaim, hfsm, hzero⟩
  rw [getLsbD_of_extractLsb'_one hbusy, busy_iff]

/-- Settles O43: the two fields of `LASTV`, and `FAIL` by the value of `RESULT`. -/
theorem lastvLayoutAndFail : Obligations.LastvLayoutAndFail := by
  intro s
  obtain ⟨hfan, hlight⟩ := lastv_fields cfg s
  exact ⟨fun h => by rw [hfan, setWidth_extractLsb'_fanCode h], hlight, fail_iff s⟩

/-- Settles O19: the values `State.resetWith` writes, and the words computed from them. -/
theorem resetValues : Obligations.ResetValues := by
  have hstatus : status State.reset = 0x0000 := by decide
  have hlastv : lastv cfg State.reset = 0x000 := by decide
  have hlight : light8 State.reset.lastLight = 0x00 := by decide
  exact ⟨rfl, rfl, rfl, rfl, rfl, rfl, rfl, rfl, rfl, rfl, hlight, hstatus, hlastv, rfl⟩

end Sys2Proof.Machine

/-! PROOFS. The command word (30_encoding.md R80, R81, R88): its operation is its top four bits, and its ignored bits take
no part in what it decodes to. -/

namespace Sys2Proof

open Sys2Proof.Machine

/-- What the five kinds of operation field decode to. -/
theorem decodeFields_cases (f : CommandFields) :
    (f.op = 1 ∧ decodeFields f = .ok .select) ∨
    (f.op = 2 ∧ decodeFields f = .ok (.txd f.addr (underValid f.fv f.fan) (underValid f.pv f.pwr))) ∨
    (f.op = 3 ∧ decodeFields f =
      .ok (.txs f.addr (underValid f.fv f.fan) (underValid f.lv ⟨f.lm, f.lval⟩) (underValid f.pv f.pwr))) ∨
    (f.op = 4 ∧ decodeFields f = .ok .close) ∨
    ((f.op = 0 ∨ 5 ≤ f.op.toNat) ∧ decodeFields f = .rejected .reservedOp) := by
  unfold decodeFields
  by_cases h1 : f.op = 1
  · exact .inl ⟨h1, if_pos h1⟩
  rw [if_neg h1]
  by_cases h2 : f.op = 2
  · exact .inr (.inl ⟨h2, if_pos h2⟩)
  rw [if_neg h2]
  by_cases h3 : f.op = 3
  · exact .inr (.inr (.inl ⟨h3, if_pos h3⟩))
  rw [if_neg h3]
  by_cases h4 : f.op = 4
  · exact .inr (.inr (.inr (.inl ⟨h4, if_pos h4⟩)))
  have hreserved : f.op = 0 ∨ 5 ≤ f.op.toNat := by bv_omega
  exact .inr (.inr (.inr (.inr ⟨hreserved, if_neg h4⟩)))

/-- The operation field, by the mask of bits 31:28. -/
theorem commandFields_op_eq_iff (w : CommandWord) (k : BitVec 4) :
    (commandFields w).op = k ↔ w &&& 0xF0000000 = k ++ (0 : BitVec 28) := by
  have hw : w.extractLsb' 28 4 ++ w.extractLsb' 0 28 = w :=
    (BitVec.extractLsb'_append_extractLsb'_eq_extractLsb' rfl).trans BitVec.extractLsb'_eq_self
  have hand : w &&& 0xF0000000 = (commandFields w).op ++ (0 : BitVec 28) := by
    calc w &&& 0xF0000000
        = (w.extractLsb' 28 4 ++ w.extractLsb' 0 28) &&& (BitVec.allOnes 4 ++ 0#28) := by rw [hw]; rfl
      _ = (commandFields w).op ++ (0 : BitVec 28) := by
        rw [BitVec.and_append, BitVec.and_allOnes, BitVec.and_zero]; rfl
  rw [hand, BitVec.append_left_inj]

/-- Settles O3: the five cases of the operation field exclude each other, and the mask reads that field. -/
theorem operationIsTopFourBits : Obligations.OperationIsTopFourBits := by
  intro w
  have hselect : (commandFields w).op = 1 ↔ w &&& 0xF0000000 = 0x10000000 := commandFields_op_eq_iff w 1
  have htxd : (commandFields w).op = 2 ↔ w &&& 0xF0000000 = 0x20000000 := commandFields_op_eq_iff w 2
  have htxs : (commandFields w).op = 3 ↔ w &&& 0xF0000000 = 0x30000000 := commandFields_op_eq_iff w 3
  have hclose : (commandFields w).op = 4 ↔ w &&& 0xF0000000 = 0x40000000 := commandFields_op_eq_iff w 4
  have hop : w.extractLsb' 28 4 = (commandFields w).op := rfl
  rw [← hselect, ← htxd, ← htxs, ← hclose, hop, decodeCommand]
  rcases decodeFields_cases (commandFields w) with ⟨ho, hd⟩ | ⟨ho, hd⟩ | ⟨ho, hd⟩ | ⟨ho, hd⟩ | ⟨ho, hd⟩
  · simp [ho, hd]
  · simp [ho, hd]
  · simp [ho, hd]
  · simp [ho, hd]
  · have hne : ∀ k : BitVec 4, 1 ≤ k.toNat → k.toNat ≤ 4 → (commandFields w).op ≠ k := by
      rintro k h1 h4 rfl
      rcases ho with ho | ho
      · simp [ho] at h1
      · omega
    simpa [hd, hne] using ho

/-- A field under a valid bit of 0 takes no part. -/
theorem underValid_congr {α : Type} {v v' : Bool} {x x' : α} (hv : v = v') (hx : v = true → x = x') :
    underValid v x = underValid v' x' := by
  subst hv
  cases v with
  | false => rfl
  | true => rw [hx rfl]

/-- Fields that agree on the operation and on what it uses decode to one instruction (30_encoding.md R88). -/
theorem decodeFields_congr {f g : CommandFields} (hop : f.op = g.op)
    (htx : f.op = 2 ∨ f.op = 3 → f.addr = g.addr ∧ f.fv = g.fv ∧ (f.fv = true → f.fan = g.fan) ∧
      f.pv = g.pv ∧ (f.pv = true → f.pwr = g.pwr))
    (hlight : f.op = 3 → f.lv = g.lv ∧ (f.lv = true → f.lm = g.lm ∧ f.lval = g.lval)) :
    decodeFields f = decodeFields g := by
  unfold decodeFields
  rw [← hop]
  by_cases h2 : f.op = 2
  · obtain ⟨haddr, hfv, hfan, hpv, hpwr⟩ := htx (.inl h2)
    simp [h2, haddr, underValid_congr hfv hfan, underValid_congr hpv hpwr]
  by_cases h3 : f.op = 3
  · obtain ⟨haddr, hfv, hfan, hpv, hpwr⟩ := htx (.inr h3)
    obtain ⟨hlv, hl⟩ := hlight h3
    have hfield : f.lv = true → LightField.mk f.lm f.lval = ⟨g.lm, g.lval⟩ := fun h => by
      obtain ⟨hlm, hlval⟩ := hl h
      rw [hlm, hlval]
    simp [h3, haddr, underValid_congr hfv hfan, underValid_congr hpv hpwr, underValid_congr hlv hfield]
  rw [if_neg h2, if_neg h3, if_neg h2, if_neg h3]

end Sys2Proof

/-! PROOFS. The step reads the command word through its decoder only: exchanging the word of the coming tick for one that
decodes alike changes nothing (30_encoding.md R88). -/

namespace Sys2Proof.Safety

open Sys2Proof.Machine

/-- The coming tick has the word `w` on `cmd`; its other inputs are as they were. -/
def exchangeWord (w : CommandWord) (s : State) : State := setInputs { s.inputs with cmd := w } s

@[simp] theorem exchangeWord_inputs (w : CommandWord) (s : State) :
    (exchangeWord w s).inputs = { s.inputs with cmd := w } := rfl
@[simp] theorem exchangeWord_fsm (w : CommandWord) (s : State) : (exchangeWord w s).fsm = s.fsm := rfl
@[simp] theorem exchangeWord_closed (w : CommandWord) (s : State) : (exchangeWord w s).closed = s.closed := rfl

/-- The word of a tick is gone when the tick is over. -/
@[simp] theorem advance_exchangeWord (w : CommandWord) (s : State) : advance (exchangeWord w s) = advance s := rfl

/-! ### Operations that do not read the word -/

theorem reject_exchangeWord (w : CommandWord) (s : State) :
    reject (exchangeWord w s) = exchangeWord w (reject s) := rfl

theorem resetRegisters_exchangeWord (c : Config) (w : CommandWord) (s : State) :
    resetRegisters c (exchangeWord w s) = exchangeWord w (resetRegisters c s) := rfl

theorem releaseHandles_exchangeWord (w : CommandWord) (s : State) :
    releaseHandles (exchangeWord w s) = exchangeWord w (releaseHandles s) := rfl

theorem selectBackend_exchangeWord (w : CommandWord) (s : State) :
    selectBackend (exchangeWord w s) = exchangeWord w (selectBackend s) := by
  unfold selectBackend
  rw [apply_ite (exchangeWord w), apply_ite (exchangeWord w)]
  rfl

theorem transmit_exchangeWord (c : Config) (b : Bits) (m : Bool) (f : FanCommand) (l : LightCommand)
    (p : Option (BitVec 3)) (w : CommandWord) (s : State) :
    transmit c b m f l p (exchangeWord w s) = exchangeWord w (transmit c b m f l p s) := by
  unfold transmit
  rw [apply_ite (exchangeWord w), apply_ite (exchangeWord w)]
  rfl

theorem acceptTxd_exchangeWord (c : Config) (addr : BitVec 8) (fan power : Option (BitVec 3)) (w : CommandWord)
    (s : State) : acceptTxd c addr fan power (exchangeWord w s) = exchangeWord w (acceptTxd c addr fan power s) := by
  unfold acceptTxd
  rw [apply_ite (exchangeWord w)]
  cases validateTxd c addr fan with
  | none => rfl
  | some x => simp only [transmit_exchangeWord]; rfl

theorem acceptTxs_exchangeWord (c : Config) (addr : BitVec 8) (fan : Option (BitVec 3)) (light : Option LightField)
    (power : Option (BitVec 3)) (w : CommandWord) (s : State) :
    acceptTxs c addr fan light power (exchangeWord w s) = exchangeWord w (acceptTxs c addr fan light power s) := by
  have hlast : resolveTxs c addr fan light (exchangeWord w s).lastFan (exchangeWord w s).lastLight =
      resolveTxs c addr fan light s.lastFan s.lastLight := rfl
  unfold acceptTxs
  rw [apply_ite (exchangeWord w), hlast]
  cases resolveTxs c addr fan light s.lastFan s.lastLight with
  | none => rfl
  | some x => simp only [transmit_exchangeWord]; rfl

/-- The step of `FSM` reads the ready line and the bus error, and no word. -/
theorem fsmStep_exchangeWord (c : Config) (w : CommandWord) (s : State) :
    fsmStep c (exchangeWord w s) = exchangeWord w (fsmStep c s) := by
  cases hf : s.fsm with
  | idle => rw [fsmStep_of_idle c hf, fsmStep_of_idle c (s := exchangeWord w s) hf]
  | poweringUp =>
    rw [fsmStep_of_poweringUp c hf, fsmStep_of_poweringUp c (s := exchangeWord w s) hf]
    unfold poweringUpStep
    rw [apply_ite (exchangeWord w)]
    rfl
  | awaitingReady =>
    rw [fsmStep_of_awaitingReady c hf, fsmStep_of_awaitingReady c (s := exchangeWord w s) hf]
    unfold awaitingReadyStep
    rw [apply_ite (exchangeWord w), apply_ite (exchangeWord w)]
    rfl
  | transmitting =>
    rw [fsmStep_of_transmitting c hf, fsmStep_of_transmitting c (s := exchangeWord w s) hf]
    unfold emitTick advancePulse
    rw [apply_ite (exchangeWord w), apply_ite (exchangeWord w), apply_ite (exchangeWord w)]
    rfl
  | poweringDown =>
    rw [fsmStep_of_poweringDown c hf, fsmStep_of_poweringDown c (s := exchangeWord w s) hf]
    unfold returnToIdle
    rw [apply_ite (exchangeWord w)]
    rfl

/-! ### The dispatch -/

/-- The dispatch of a tick reads the word through its decoder only. -/
theorem dispatchTick_exchangeWord (c : Config) {w : CommandWord} {s : State}
    (hd : decodeCommand w = decodeCommand s.inputs.cmd) :
    dispatchTick c (exchangeWord w s) = exchangeWord w (dispatchTick c s) := by
  cases hr : s.inputs.rst with
  | true => rw [dispatchTick_reset hr, dispatchTick_reset (by simpa using hr), resetRegisters_exchangeWord]
  | false =>
    cases hv : s.inputs.cmdValid with
    | false =>
      by_cases hi : s.fsm = .idle
      · simp [dispatchTick, hr, hv, hi]
      · rw [dispatchTick_busy hr hi hv, dispatchTick_busy (by simpa using hr) (by simpa using hi) (by simpa using hv),
          fsmStep_exchangeWord]
    | true =>
      by_cases hi : s.fsm = .idle
      · cases hc : s.closed with
        | true => simp [dispatchTick, hr, hv, hi, hc, reject_exchangeWord]
        | false =>
          simp only [dispatchTick, exchangeWord_inputs, exchangeWord_fsm, exchangeWord_closed, hr, hv, hi, hc, hd]
          cases decodeCommand s.inputs.cmd with
          | rejected e => rfl
          | ok i =>
            cases i with
            | select => exact selectBackend_exchangeWord w s
            | txd addr fan power => exact acceptTxd_exchangeWord c addr fan power w s
            | txs addr fan light power => exact acceptTxs_exchangeWord c addr fan light power w s
            | close | pktDumb | pktSmart | sync | sym0 | sym1 => rfl
      · rw [dispatchTick_busy_word hr hi hv,
          dispatchTick_busy_word (by simpa using hr) (by simpa using hi) (by simpa using hv), reject_exchangeWord,
          fsmStep_exchangeWord]

/-- A word that decodes as the one presented makes the same step. -/
theorem step_exchangeWord {w : CommandWord} {s : State} (hd : decodeCommand w = decodeCommand s.inputs.cmd) :
    step (exchangeWord w s) = step s := by
  rw [step_eq_dispatchTick, step_eq_dispatchTick, dispatchTick_exchangeWord cfg hd, advance_exchangeWord]

/-- Settles O4: words that differ in ignored bits decode alike, and the step reads the word through its decoder only. -/
theorem ignoredBitsHaveNoEffect : Obligations.IgnoredBitsHaveNoEffect := by
  intro s x xs v w f g hop htx hlight
  have hd : decodeCommand v = decodeCommand w := decodeFields_congr hop htx hlight
  exact step_exchangeWord (s := { s with env := { x with cmd := w } :: xs }) hd

end Sys2Proof.Safety

/-! PROOFS. The light codes (30_encoding.md R86) and the two packets: their fields, their layouts and their inverse mappings
(30_encoding.md R90, R91; 40_codec.md R127 to R134). -/

namespace Sys2Proof.Machine

/-! ### Light codes -/

/-- `LIGHT8` has a left inverse, and so no two light commands have one code. -/
theorem light8_injective : Function.Injective light8 := by
  intro l m h
  have hl := lightOfCode_light8 l
  rw [h, lightOfCode_light8] at hl
  exact (Option.some.inj hl).symm

/-- The 103 legal codes. -/
theorem exists_light8_eq_iff (b : BitVec 8) : (∃ l, light8 l = b) ↔ b.toNat ≤ 0x64 ∨ b = 0x80 ∨ b = 0x81 := by
  constructor
  · rintro ⟨l, rfl⟩
    cases l with
    | level q =>
      have hq : q.val ≤ 100 := Nat.le_of_lt_succ q.isLt
      exact .inl (by simpa [light8, Nat.mod_eq_of_lt (show q.val < 256 by omega)] using hq)
    | onOff on => cases on <;> simp [light8]
  · rintro (h | rfl | rfl)
    · exact ⟨.level ⟨b.toNat, Nat.lt_succ_of_le h⟩, by simp [light8]⟩
    · exact ⟨.onOff false, rfl⟩
    · exact ⟨.onOff true, rfl⟩

/-- Settles O6: the values by definition, injectivity by the inverse, the codes by constructor. -/
theorem lightCodesInjectiveAndLegal : Obligations.LightCodesInjectiveAndLegal :=
  ⟨fun _ => rfl, rfl, rfl, fun _ _ h => light8_injective h, exists_light8_eq_iff⟩

/-! ### The fields of the packets -/

@[simp] theorem addrField_length (a : BitVec 4) : (addrField cfg a).length = 4 := natBits_length _ _
@[simp] theorem fanField_length (f : FanCommand) : (fanField cfg f).length = 2 := natBits_length _ _
@[simp] theorem lightField_length (l : LightCommand) : (lightField cfg l).length = 8 := natBits_length _ _

/-- The address field read back from the place it was written at. -/
theorem ofNat_bitsNumber_addrField (pre post : Bits) (a : BitVec 4) {p : Nat} (hp : pre.length = p) :
    BitVec.ofNat 4 (bitsNumber (pre ++ addrField cfg a ++ post) p 4) = a :=
  bitsField_append pre post a p hp

/-- The fan field holds the code of a member of `FAN_SET`. -/
theorem fanOfCode_bitsNumber_fanField (pre post : Bits) {f : FanCommand} (hf : f ∈ cfg.fanSet) {p : Nat}
    (hp : pre.length = p) : fanOfCode cfg (bitsNumber (pre ++ fanField cfg f ++ post) p 2) = some f := by
  have hlt : (fanCode cfg f).toNat < 2 ^ 2 := fanCode_lt hf
  rw [fanField, cfg_fanBits, bitsNumber_append pre post 2 _ p hp, Nat.mod_eq_of_lt hlt, fanOfCode_fanCode hf]

/-- The light field holds a `LIGHT8` code. -/
theorem lightOfCode_bitsNumber_lightField (pre post : Bits) (l : LightCommand) {p : Nat} (hp : pre.length = p) :
    lightOfCode cfg (bitsNumber (pre ++ lightField cfg l ++ post) p 8) = some l := by
  rw [lightField, cfg_lightBits, bitsNumber_append pre post 8 _ p hp, Nat.mod_eq_of_lt (light8 l).isLt,
    lightOfCode_light8]

/-! ### The dumb packet -/

theorem encodeDumb_length (a : BitVec 4) (f : FanCommand) : (encodeDumb cfg a f).length = 12 := by
  simp [encodeDumb]

theorem encodeDumb_eq_dumbLayout (a : BitVec 4) (f : FanCommand) :
    encodeDumb cfg a f = Safety.dumbLayout a (fanCode cfg f) := by
  simp only [encodeDumb, addrField, fanField, wordBits, cfg_addrBits, cfg_fanBits, natBits, BitVec.testBit_toNat]
  simp [Safety.dumbLayout, defaultChkDumb]

theorem decodeDumb_encodeDumb (a : BitVec 4) {f : FanCommand} (hf : f ∈ cfg.fanSet) :
    decodeDumb cfg (encodeDumb cfg a f) = some (a, f) := by
  have haddr : BitVec.ofNat 4 (bitsNumber (encodeDumb cfg a f) 4 4) = a := by
    rw [encodeDumb, List.append_assoc _ (fanField cfg f)]
    exact ofNat_bitsNumber_addrField _ _ a rfl
  have hfan : fanOfCode cfg (bitsNumber (encodeDumb cfg a f) 8 2) = some f :=
    fanOfCode_bitsNumber_fanField _ _ hf (by simp)
  simp [decodeDumb, encodeDumb_length, haddr, hfan]

/-- Settles O8: length, layout and inverse, one lemma each. -/
theorem dumbPacketRoundTrip : Obligations.DumbPacketRoundTrip := fun a f hf =>
  ⟨encodeDumb_length a f, encodeDumb_eq_dumbLayout a f, decodeDumb_encodeDumb a hf⟩

/-! ### The smart packet -/

theorem encodeSmart_length (a : BitVec 4) (f : FanCommand) (l : LightCommand) : (encodeSmart cfg a f l).length = 22 := by
  simp [encodeSmart]

theorem encodeSmart_eq_smartLayout (a : BitVec 4) (f : FanCommand) (l : LightCommand) :
    encodeSmart cfg a f l = Safety.smartLayout a (fanCode cfg f) (light8 l) := by
  simp only [encodeSmart, addrField, fanField, lightField, wordBits, cfg_addrBits, cfg_fanBits, cfg_lightBits, natBits,
    BitVec.testBit_toNat]
  simp [Safety.smartLayout, defaultChkSmart]

theorem decodeSmart_encodeSmart (a : BitVec 4) {f : FanCommand} (l : LightCommand) (hf : f ∈ cfg.fanSet) :
    decodeSmart cfg (encodeSmart cfg a f l) = some (a, f, l) := by
  have haddr : BitVec.ofNat 4 (bitsNumber (encodeSmart cfg a f l) 4 4) = a := by
    rw [encodeSmart, List.append_assoc _ (lightField cfg l), List.append_assoc _ (fanField cfg f)]
    exact ofNat_bitsNumber_addrField _ _ a rfl
  have hfan : fanOfCode cfg (bitsNumber (encodeSmart cfg a f l) 8 2) = some f := by
    rw [encodeSmart, List.append_assoc _ (lightField cfg l)]
    exact fanOfCode_bitsNumber_fanField _ _ hf (by simp)
  have hlight : lightOfCode cfg (bitsNumber (encodeSmart cfg a f l) 10 8) = some l :=
    lightOfCode_bitsNumber_lightField _ _ l (by simp)
  simp [decodeSmart, encodeSmart_length, haddr, hfan, hlight]

/-- Settles O9: length, layout and inverse, one lemma each. -/
theorem smartPacketRoundTrip : Obligations.SmartPacketRoundTrip := fun a f l hf =>
  ⟨encodeSmart_length a f l, encodeSmart_eq_smartLayout a f l, decodeSmart_encodeSmart a l hf⟩

end Sys2Proof.Machine

/-! PROOFS. Which operands of TXD and TXS are legal (30_encoding.md R82 to R87; 40_codec.md R122), and the values that a TXS
supplies or carries forward (R124). -/

namespace Sys2Proof.Machine

/-! ### One operand -/

theorem isSome_addressOfField (a : BitVec 8) : (addressOfField cfg a).isSome = true ↔ a.toNat ≤ 15 := by
  by_cases h : a.toNat ≤ 15
  · simp [addressOfField_of_le h, h]
  · simp [addressOfField_of_lt (Nat.not_le.1 h), h]

/-- The `FAN` field names a fan command exactly as 30_encoding.md R84 lists them. -/
theorem fanOfField_eq_fanNamed (f : BitVec 3) : fanOfField cfg f = Safety.fanNamed f.toNat := by
  revert f; decide

theorem isSome_fanOfField (f : BitVec 3) : (fanOfField cfg f).isSome = true ↔ f.toNat ≤ 3 := by
  simp [fanOfField, fanOfCode, Nat.lt_succ_iff]

/-- The quantizer of `cfg` is the identity (40_codec.md R125). -/
theorem quantize_cfg (l : LightCommand) : quantize cfg l = l := by cases l <;> rfl

theorem levelOf_cfg (n : Nat) : levelOf cfg n = if h : n < 101 then some (.level ⟨n, h⟩) else none := by
  by_cases h : n < 101
  · simp [levelOf, h, Nat.le_of_lt_succ h]
  · simp [levelOf, h]

/-- The light of a setting: `LVAL` 0 is off, 1 is on (30_encoding.md R85). -/
theorem lightOfField_of_lm {l : LightField} (h : l.lm = true) :
    lightOfField cfg l = if l.lval.toNat ≤ 1 then some (.onOff (decide (l.lval.toNat = 1))) else none := by
  have h0 : l.lval = 0 ↔ l.lval.toNat = 0 := BitVec.toNat_inj.symm
  have h1 : l.lval = 1 ↔ l.lval.toNat = 1 := BitVec.toNat_inj.symm
  simp only [lightOfField, h, if_true, h0, h1]
  rcases Nat.lt_trichotomy l.lval.toNat 1 with hlt | heq | hgt
  · simp [Nat.lt_one_iff.1 hlt]
  · simp [heq]
  · simp [show l.lval.toNat ≠ 0 by omega, show l.lval.toNat ≠ 1 by omega, Nat.not_le.2 hgt]

/-- The light of a percentage (30_encoding.md R85). -/
theorem lightOfField_of_not_lm {l : LightField} (h : l.lm = false) :
    lightOfField cfg l = levelOf cfg l.lval.toNat := by
  simp [lightOfField, h]

theorem isSome_lightOfField (l : LightField) : (lightOfField cfg l).isSome = true ↔
    (l.lm = false ∧ l.lval.toNat ≤ 100) ∨ (l.lm = true ∧ l.lval.toNat ≤ 1) := by
  cases h : l.lm with
  | false => simp [lightOfField_of_not_lm h, levelOf_cfg, Nat.lt_succ_iff]
  | true => simp [lightOfField_of_lm h]

/-! ### Validation -/

/-- TXD needs a legal address and a fan that is supplied and supported (40_codec.md R122). -/
theorem isSome_validateTxd (c : Config) (addr : BitVec 8) (fan : Option (BitVec 3)) :
    (validateTxd c addr fan).isSome = true ↔
      (addressOfField c addr).isSome = true ∧ ∃ f, fan = some f ∧ (fanOfField c f).isSome = true := by
  unfold validateTxd
  cases addressOfField c addr <;> cases fan <;> simp

/-- TXS, with an absent fan or light replaced by its last-known value (40_codec.md R124). -/
theorem resolveTxs_eq_some_iff {c : Config} {addr : BitVec 8} {fan : Option (BitVec 3)} {light : Option LightField}
    {lf : FanCommand} {ll : LightCommand} {a : BitVec 4} {f : FanCommand} {l : LightCommand} :
    resolveTxs c addr fan light lf ll = some (a, f, l) ↔
      addressOfField c addr = some a ∧ fan.elim (some lf) (fanOfField c) = some f ∧
      light.elim (some ll) (fun x => (lightOfField c x).map (quantize c)) = some l := by
  unfold resolveTxs
  cases addressOfField c addr with
  | none => simp
  | some a' =>
    cases fan with
    | none => cases light with
      | none => simp
      | some y => cases h : (lightOfField c y).map (quantize c) <;> simp [h]
    | some x => cases light with
      | none => cases h : fanOfField c x <;> simp [h]
      | some y => cases hx : fanOfField c x <;> cases hy : (lightOfField c y).map (quantize c) <;> simp [hx, hy]

/-- TXS needs a legal address and legal values where it supplies them; the last-known values are not looked at
(40_codec.md R122). -/
theorem isSome_resolveTxs (c : Config) (addr : BitVec 8) (fan : Option (BitVec 3)) (light : Option LightField)
    (lf : FanCommand) (ll : LightCommand) :
    (resolveTxs c addr fan light lf ll).isSome = true ↔
      (addressOfField c addr).isSome = true ∧ (∀ f, fan = some f → (fanOfField c f).isSome = true) ∧
      ∀ l, light = some l → (lightOfField c l).isSome = true := by
  simp only [Option.isSome_iff_exists, Prod.exists, resolveTxs_eq_some_iff, exists_and_left, exists_and_right]
  cases fan <;> cases light <;> simp

/-- Settles O7: the operands one by one, a field under a valid bit of 0 being absent. -/
theorem codecValidatesExactlyTheLegalOperands : Obligations.CodecValidatesExactlyTheLegalOperands := by
  intro g lastFan lastLight
  rw [isSome_validateTxd, isSome_resolveTxs, isSome_addressOfField]
  cases g.fv <;> cases g.lv <;> simp [underValid, isSome_fanOfField, isSome_lightOfField]

end Sys2Proof.Machine

/-! PROOFS. Packets as codes (40_codec.md R135): no two legal operand sets share one, the families are told apart by the
first bit, and the check field is a function of the others. -/

namespace Sys2Proof.Machine

/-! ### The bits of a field -/

theorem bitsVal_append_singleton (b : Bits) (x : Bool) : bitsVal (b ++ [x]) = Nat.bit x (bitsVal b) := by
  cases x <;> simp [bitsVal, Nat.bit]

/-- Bit `i` of `val(b)` is the `i`-th bit from the end. -/
theorem testBit_bitsVal (b : Bits) (i : Nat) : (bitsVal b).testBit i = b.reverse.getD i false := by
  induction b using List.reverseRecOn generalizing i with
  | nil => simp
  | append_singleton b x ih =>
    rw [bitsVal_append_singleton, List.reverse_append]
    cases i with
    | zero => simp
    | succ i => simp [Nat.testBit_bit_succ, ih]

/-- A field's bits, most significant first, are those at its places. -/
theorem getLsbD_bitsField {b : Bits} {p n : Nat} (hb : p + n ≤ b.length) (i : Nat) :
    (bitsField b p n).getLsbD i = (decide (i < n) && b.getD (p + (n - 1 - i)) false) := by
  have hlen : ((b.drop p).take n).length = n := by rw [List.length_take, List.length_drop]; omega
  rw [bitsField, BitVec.getLsbD_ofNat, bitsNumber, testBit_bitsVal]
  by_cases hi : i < n
  · rw [List.getD_eq_getElem?_getD, List.getElem?_reverse (by omega), hlen, List.getElem?_take_of_lt (by omega),
      List.getElem?_drop, List.getD_eq_getElem?_getD]
  · simp [hi]

/-! ### The check fields -/

/-- The dumb packet's check field (40_codec.md R129), bit by bit. -/
theorem dumbLayout_check (a : BitVec 4) (f : BitVec 3) : let b := Safety.dumbLayout a f
    bitsField b 10 2 = bitsField b 4 2 ^^^ bitsField b 6 2 ^^^ bitsField b 8 2 := by
  intro b
  have hlen : b.length = 12 := rfl
  refine BitVec.eq_of_getLsbD_eq fun i hi => ?_
  rw [BitVec.getLsbD_xor, BitVec.getLsbD_xor, getLsbD_bitsField (by omega), getLsbD_bitsField (by omega),
    getLsbD_bitsField (by omega), getLsbD_bitsField (by omega)]
  interval_cases i <;> rfl

/-- The smart packet's check field (40_codec.md R132), bit by bit: the fan code reaches its two low bits only. -/
theorem smartLayout_check (a : BitVec 4) (f : BitVec 3) (l : BitVec 8) : let b := Safety.smartLayout a f l
    bitsField b 18 4 =
      bitsField b 4 4 ^^^ (bitsField b 8 2).setWidth 4 ^^^ bitsField b 10 4 ^^^ bitsField b 14 4 := by
  intro b
  have hlen : b.length = 22 := rfl
  refine BitVec.eq_of_getLsbD_eq fun i hi => ?_
  rw [BitVec.getLsbD_xor, BitVec.getLsbD_xor, BitVec.getLsbD_xor, BitVec.getLsbD_setWidth,
    getLsbD_bitsField (by omega), getLsbD_bitsField (by omega), getLsbD_bitsField (by omega),
    getLsbD_bitsField (by omega), getLsbD_bitsField (by omega)]
  interval_cases i <;> simp [b, Safety.smartLayout]

/-! ### The packets -/

theorem encodeDumb_injective {a a' : BitVec 4} {f f' : FanCommand} (hf : f ∈ cfg.fanSet) (hf' : f' ∈ cfg.fanSet)
    (h : encodeDumb cfg a f = encodeDumb cfg a' f') : a = a' ∧ f = f' := by
  have hd := decodeDumb_encodeDumb a hf
  rw [h, decodeDumb_encodeDumb a' hf'] at hd
  simpa [eq_comm] using hd

theorem encodeSmart_injective {a a' : BitVec 4} {f f' : FanCommand} {l l' : LightCommand} (hf : f ∈ cfg.fanSet)
    (hf' : f' ∈ cfg.fanSet) (h : encodeSmart cfg a f l = encodeSmart cfg a' f' l') : a = a' ∧ f = f' ∧ l = l' := by
  have hd := decodeSmart_encodeSmart a l hf
  rw [h, decodeSmart_encodeSmart a' l' hf'] at hd
  simpa [eq_comm] using hd

/-- A dumb packet begins with 0, a smart one with 1, and so neither begins the other. -/
theorem encodeDumb_encodeSmart_not_prefix (a a' : BitVec 4) (f f' : FanCommand) (l' : LightCommand) :
    ¬ encodeDumb cfg a f <+: encodeSmart cfg a' f' l' ∧ ¬ encodeSmart cfg a' f' l' <+: encodeDumb cfg a f := by
  constructor <;> simp [encodeDumb, encodeSmart, List.cons_prefix_cons]

/-- Settles O10: injectivity by the inverse mappings, the families by the first bit, the check fields by the layouts. -/
theorem packetsDistinct : Obligations.PacketsDistinct := by
  refine ⟨fun _ _ _ _ hf hf' h => encodeDumb_injective hf hf' h,
    fun _ _ _ _ _ _ hf hf' h => encodeSmart_injective hf hf' h,
    fun a f a' f' l' => encodeDumb_encodeSmart_not_prefix a a' f f' l', fun a f => ?_, fun a f l => ?_⟩
  · rw [encodeDumb_eq_dumbLayout]; exact dumbLayout_check a _
  · rw [encodeSmart_eq_smartLayout]; exact smartLayout_check a _ _

end Sys2Proof.Machine

/-! PROOFS. What TXD and TXS do in Idle with a backend chosen: `InvalidCommand` for an illegal operand (40_codec.md R123;
42_handshake.md R172), the start of a transmission for legal ones under Hardware (R173, R181). -/

namespace Sys2Proof.Machine

/-! ### Under one condition each: the dispatch, the accepting steps, the transmission -/

/-- In Idle and not closed a command word comes to its own accepting step (43_backend.md R215). -/
theorem presented_of_idle (c : Config) (accept : State → State) {s : State} (hi : s.fsm = .idle)
    (hc : s.closed = false) : presented c accept s = accept s := by
  simp [presented, hi, hc]

theorem exec_txd_of_idle (addr : BitVec 8) (fan power : Option (BitVec 3)) {s : State} (hi : s.fsm = .idle)
    (hc : s.closed = false) : exec (.txd addr fan power) s = .next (acceptTxd cfg addr fan power s) := by
  rw [Safety.exec_eq_wordTick, wordTick, txdTick, presented_of_idle _ _ hi hc]

theorem exec_txs_of_idle (addr : BitVec 8) (fan : Option (BitVec 3)) (light : Option LightField)
    (power : Option (BitVec 3)) {s : State} (hi : s.fsm = .idle) (hc : s.closed = false) :
    exec (.txs addr fan light power) s = .next (acceptTxs cfg addr fan light power s) := by
  rw [Safety.exec_eq_wordTick, wordTick, txsTick, presented_of_idle _ _ hi hc]

/-- Under Hardware the power level is examined first (42_handshake.md R172, R173). -/
theorem transmit_of_hardware (c : Config) (b : Bits) (m : Bool) (f : FanCommand) (l : LightCommand)
    (p : Option (BitVec 3)) {s : State} (hb : s.backend = .hardware) :
    transmit c b m f l p s = if powerOk c p then beginTransmission b m f l p s else raise .invalidCommand s := by
  simp [transmit, hb]

/-- A supplied power level of 5 or more is illegal (30_encoding.md R87). -/
theorem powerOk_of_le {p : BitVec 3} (h : 5 ≤ p.toNat) : powerOk cfg (some p) = false :=
  decide_eq_false (Nat.not_le.2 h)

theorem powerOk_of_forall {power : Option (BitVec 3)} (h : ∀ p, power = some p → p.toNat ≤ 4) :
    powerOk cfg power = true := by
  cases power with
  | none => rfl
  | some p => exact (powerOk_some p).2 (h p rfl)

/-! ### TXD -/

/-- Operands or a power level that are not legal: one error entry, and nothing else (40_codec.md R123). -/
theorem acceptTxd_of_illegal {c : Config} {addr : BitVec 8} {fan power : Option (BitVec 3)} {s : State}
    (hb : s.backend ≠ .unselected)
    (h : validateTxd c addr fan = none ∨ s.backend = .hardware ∧ powerOk c power = false) :
    acceptTxd c addr fan power s = raise .invalidCommand s := by
  rcases acceptTxd_cases c addr fan power s with ⟨hu, _⟩ | ⟨_, _, hs⟩ | ⟨a, f, _, hv, hs⟩
  · exact absurd hu hb
  · exact hs
  · rcases h with hn | ⟨hw, hp⟩
    · rw [hn] at hv; cases hv
    · rw [hs, transmit_of_hardware _ _ _ _ _ _ hw, hp]; rfl

theorem validateTxd_eq_none {addr : BitVec 8} {fan : Option (BitVec 3)}
    (h : 16 ≤ addr.toNat ∨ fan = none ∨ ∃ f, fan = some f ∧ 4 ≤ f.toNat) : validateTxd cfg addr fan = none := by
  rw [← Option.not_isSome_iff_eq_none, isSome_validateTxd, isSome_addressOfField]
  rintro ⟨ha, f, rfl, hf⟩
  rw [isSome_fanOfField] at hf
  rcases h with h | h | ⟨g, hg, h⟩
  · omega
  · cases h
  · cases hg; omega

/-- Settles O25: an illegal address or fan fails validation, an illegal power level the power test. -/
theorem txdInvalidResult : Obligations.TxdInvalidResult := by
  intro addr fan power s hi hc hb h
  rw [exec_txd_of_idle _ _ _ hi hc]
  refine congrArg _ (acceptTxd_of_illegal hb ?_)
  rcases h with h | h | h | ⟨hw, p, rfl, hp⟩
  · exact .inl (validateTxd_eq_none (.inl h))
  · exact .inl (validateTxd_eq_none (.inr (.inl h)))
  · exact .inl (validateTxd_eq_none (.inr (.inr h)))
  · exact .inr ⟨hw, powerOk_of_le hp⟩

/-! ### TXS -/

/-- As for TXD (40_codec.md R123). -/
theorem acceptTxs_of_illegal {c : Config} {addr : BitVec 8} {fan : Option (BitVec 3)} {light : Option LightField}
    {power : Option (BitVec 3)} {s : State} (hb : s.backend ≠ .unselected)
    (h : resolveTxs c addr fan light s.lastFan s.lastLight = none ∨ s.backend = .hardware ∧ powerOk c power = false) :
    acceptTxs c addr fan light power s = raise .invalidCommand s := by
  rcases acceptTxs_cases c addr fan light power s with ⟨hu, _⟩ | ⟨_, _, hs⟩ | ⟨a, f, l, _, hv, hs⟩
  · exact absurd hu hb
  · exact hs
  · rcases h with hn | ⟨hw, hp⟩
    · rw [hn] at hv; cases hv
    · rw [hs, transmit_of_hardware _ _ _ _ _ _ hw, hp]; rfl

theorem resolveTxs_eq_none {addr : BitVec 8} {fan : Option (BitVec 3)} {light : Option LightField} (lf : FanCommand)
    (ll : LightCommand) (h : 16 ≤ addr.toNat ∨ (∃ f, fan = some f ∧ 4 ≤ f.toNat) ∨
      ∃ l, light = some l ∧ ((l.lm = false ∧ 101 ≤ l.lval.toNat) ∨ (l.lm = true ∧ 2 ≤ l.lval.toNat))) :
    resolveTxs cfg addr fan light lf ll = none := by
  rw [← Option.not_isSome_iff_eq_none, isSome_resolveTxs, isSome_addressOfField]
  rintro ⟨ha, hfan, hlight⟩
  rcases h with h | ⟨f, hf, h⟩ | ⟨l, hl, h⟩
  · omega
  · have hle := (isSome_fanOfField f).1 (hfan f hf)
    omega
  · have hlegal := (isSome_lightOfField l).1 (hlight l hl)
    rcases h with ⟨hm, h⟩ | ⟨hm, h⟩ <;> simp [hm] at hlegal <;> omega

/-- Settles O28: an illegal address, fan or light fails validation, an illegal power level the power test. -/
theorem txsInvalidResult : Obligations.TxsInvalidResult := by
  intro addr fan light power s hi hc hb h
  rw [exec_txs_of_idle _ _ _ _ hi hc]
  refine congrArg _ (acceptTxs_of_illegal hb ?_)
  rcases h with h | h | h | ⟨hw, p, rfl, hp⟩
  · exact .inl (resolveTxs_eq_none _ _ (.inl h))
  · exact .inl (resolveTxs_eq_none _ _ (.inr (.inl h)))
  · exact .inl (resolveTxs_eq_none _ _ (.inr (.inr h)))
  · exact .inr ⟨hw, powerOk_of_le hp⟩

/-- The fan that resolving gives is the one `smartFan` names. -/
theorem elim_fanOfField_eq_smartFan (fan : Option (BitVec 3)) (s : State) :
    fan.elim (some s.lastFan) (fanOfField cfg) = Safety.smartFan fan s := by
  cases fan with
  | none => rfl
  | some f => exact fanOfField_eq_fanNamed f

/-- The light that resolving gives is the one `smartLight` names. -/
theorem elim_lightOfField_eq_smartLight (light : Option LightField) (s : State) :
    light.elim (some s.lastLight) (fun x => (lightOfField cfg x).map (quantize cfg)) = Safety.smartLight light s := by
  cases light with
  | none => rfl
  | some l =>
    have hid : quantize cfg = id := funext quantize_cfg
    cases h : l.lm with
    | false => simp [hid, lightOfField_of_not_lm h, levelOf_cfg, Safety.smartLight, h]
    | true => simp [hid, lightOfField_of_lm h, Safety.smartLight, h]

/-- A TXS of legal operands resolves to its address and the values it supplies or carries forward (40_codec.md R124). -/
theorem resolveTxs_eq_some {addr : BitVec 8} {fan : Option (BitVec 3)} {light : Option LightField} {s : State}
    {f : FanCommand} {l : LightCommand} (ha : addr.toNat ≤ 15) (hf : Safety.smartFan fan s = some f)
    (hl : Safety.smartLight light s = some l) :
    resolveTxs cfg addr fan light s.lastFan s.lastLight = some (addr.setWidth 4, f, l) := by
  rw [resolveTxs_eq_some_iff, elim_fanOfField_eq_smartFan, elim_lightOfField_eq_smartLight]
  exact ⟨addressOfField_of_le ha, hf, hl⟩

/-- Legal operands come to the transmission of their smart packet (42_handshake.md R181). -/
theorem acceptTxs_of_resolveTxs {c : Config} {addr : BitVec 8} {fan : Option (BitVec 3)} {light : Option LightField}
    {s : State} {a : BitVec 4} {f : FanCommand} {l : LightCommand} (power : Option (BitVec 3))
    (hb : s.backend ≠ .unselected) (h : resolveTxs c addr fan light s.lastFan s.lastLight = some (a, f, l)) :
    acceptTxs c addr fan light power s = transmit c (encodeSmart c a f l) true f l power s := by
  simp [acceptTxs, hb, h]

/-- Settles O29: the operands resolve, the power test passes, and `PWR_L` takes the supplied level or a free value. -/
theorem txsStartsUnderHardware : Obligations.TxsStartsUnderHardware := by
  intro addr fan light power f l s hi hc hb ha hf hl hp
  refine ⟨power.getD (Config.freePowerLevel s.tick), fun p h => by rw [h]; rfl, ?_⟩
  rw [exec_txs_of_idle _ _ _ _ hi hc, acceptTxs_of_resolveTxs power (by simp [hb]) (resolveTxs_eq_some ha hf hl),
    transmit_of_hardware _ _ _ _ _ _ hb, if_pos (powerOk_of_forall hp), encodeSmart_eq_smartLayout]
  rfl

end Sys2Proof.Machine

/-! PROOFS. The modulator: how many pulses a bit sequence has and the bits read back from them (41_modulator.md R154), how
many ticks its waveform lasts (R155), and the symbol found under a position (R156). -/

namespace Sys2Proof.Safety

open Sys2Proof.Machine

/-! ### Pulses and ticks, for any timing table -/

/-- How many pulses the bits have, `SYNC` not counted: each bit has those of its symbol. -/
theorem length_flatMap_symbolPulses (c : Config) (b : Bits) :
    (b.flatMap fun x => symbolPulses c (bitSymbol x)).length =
      c.sym0.length * b.count false + c.sym1.length * b.count true := by
  induction b with
  | nil => rfl
  | cons x b ih =>
    rw [List.flatMap_cons, List.length_append, ih]
    cases x <;> simp [bitSymbol, symbolPulses] <;> ring

theorem length_modulate (c : Config) (b : Bits) :
    (modulate c b).length = c.sync.length + c.sym0.length * b.count false + c.sym1.length * b.count true := by
  rw [modulate, List.length_append, length_flatMap_symbolPulses, Nat.add_assoc]

/-- A pulse sequence lasts as long as its pulses do together (41_modulator.md R152). -/
theorem length_expand (p : List Pulse) : (expand p).length = (p.map Pulse.duration).sum := by
  simp [expand, List.length_flatMap]

/-- The waveform is that of `SYNC` and then that of each bit's symbol. -/
theorem expand_modulate (c : Config) (b : Bits) :
    expand (modulate c b) = expand c.sync ++ b.flatMap fun x => expand (symbolPulses c (bitSymbol x)) := by
  simp only [expand, modulate, List.flatMap_append, List.flatMap_assoc]

theorem length_expand_modulate (c : Config) (b : Bits) :
    (expand (modulate c b)).length = (c.sync.map Pulse.duration).sum +
      (b.map (fun x => ((symbolPulses c (bitSymbol x)).map Pulse.duration).sum)).sum := by
  simp only [expand_modulate, List.length_append, List.length_flatMap, length_expand]

/-! ### The default table: two pulses and three ticks a bit -/

/-- Both symbols have two pulses, so the count depends on how many bits there are and not on which. -/
theorem length_modulate_cfg (b : Bits) : (modulate cfg b).length = 2 + 2 * b.length := by
  calc (modulate cfg b).length = 2 + 2 * b.count false + 2 * b.count true := length_modulate cfg b
    _ = 2 + 2 * (b.count false + b.count true) := by ring
    _ = 2 + 2 * b.length := by rw [List.count_false_add_count_true]

/-- Either symbol of the default table lasts three ticks. -/
theorem sum_duration_symbolPulses (x : Bool) :
    ((symbolPulses cfg (bitSymbol x)).map Pulse.duration).sum = 3 := by cases x <;> rfl

theorem length_waveform (b : Bits) : (waveform b).length = 8 + 3 * b.length := by
  have hsync : (cfg.sync.map Pulse.duration).sum = 8 := rfl
  rw [waveform, length_expand_modulate, hsync]
  simp [sum_duration_symbolPulses, Nat.mul_comm]

/-- Settles O13: the general duration, its value with the default table, and that at the lengths of the two packets. -/
theorem waveformLength : Obligations.WaveformLength :=
  ⟨length_expand_modulate, fun _ _ => rfl, length_waveform,
    fun a f => by rw [length_waveform, encodeDumb_length],
    fun a f l => by rw [length_waveform, encodeSmart_length]⟩

/-! ### The bits read back -/

/-- Reading takes one symbol off the front and answers its bit: no symbol of the default table begins the other. -/
theorem parseSymbols_symbolPulses_append (n : Nat) (x : Bool) (ps : List Pulse) :
    parseSymbols cfg (n + 1) (symbolPulses cfg (bitSymbol x) ++ ps) = (parseSymbols cfg n ps).map (x :: ·) := by
  cases x <;> simp [bitSymbol, symbolPulses, cfg, parseSymbols]

/-- Reading gives the bits back wherever the bound leaves room for each of them. -/
theorem parseSymbols_flatMap_symbolPulses {n : Nat} {b : Bits} (h : b.length ≤ n) :
    parseSymbols cfg n (b.flatMap fun x => symbolPulses cfg (bitSymbol x)) = some b := by
  induction b generalizing n with
  | nil => simp [parseSymbols]
  | cons x b ih =>
    obtain ⟨m, rfl⟩ : ∃ m, n = m + 1 := Nat.exists_eq_add_one.2 (Nat.zero_lt_of_lt h)
    rw [List.flatMap_cons, parseSymbols_symbolPulses_append, ih (Nat.le_of_succ_le_succ h), Option.map_some]

theorem demodulate_modulate (b : Bits) : demodulate cfg (modulate cfg b) = some b := by
  have hlen : b.length ≤ (modulate cfg b).length := by rw [length_modulate_cfg]; omega
  rw [demodulate, modulate, List.drop_left]
  exact parseSymbols_flatMap_symbolPulses hlen

/-- Settles O12: the general count, its value with the default table, and the recovery. -/
theorem modulatePulseCountAndRecovery : Obligations.ModulatePulseCountAndRecovery :=
  ⟨length_modulate, length_modulate_cfg, demodulate_modulate⟩

/-! ### The symbol under a position -/

/-- Where the walk over the symbols finds none, their pulses have ended. -/
theorem length_flatMap_le_of_locateSymbol_eq_none {c : Config} {ys : List Symbol} {k : Nat}
    (h : locateSymbol c ys k = none) : (ys.flatMap (symbolPulses c)).length ≤ k := by
  induction ys generalizing k with
  | nil => exact Nat.zero_le k
  | cons y ys ih =>
    by_cases hk : k < (symbolPulses c y).length
    · simp [locateSymbol, hk] at h
    · have hrest := ih (by simpa [locateSymbol, hk] using h)
      rw [List.flatMap_cons, List.length_append]
      omega

/-- Settles O14: the symbol found holds the pulse at the position, and none is found only past the last pulse. -/
theorem pulseUnderPosition : Obligations.PulseUnderPosition := by
  intro c b k
  rw [modulate_eq_flatMap]
  cases h : locateSymbol c (packetSymbols b) k with
  | none => exact List.getElem?_eq_none (length_flatMap_le_of_locateSymbol_eq_none h)
  | some p => exact getElem?_flatMap_of_locateSymbol c _ _ h

end Sys2Proof.Safety

/-! PROOFS. A valid TXD under Hardware (42_handshake.md R171, R173), and which words start a transmission (R170, R172). -/

namespace Sys2Proof.Machine

/-! ### TXD -/

/-- A TXD of legal operands: its address and the fan that its code names (30_encoding.md R84, R89). -/
theorem validateTxd_eq_some {addr : BitVec 8} {f : BitVec 3} {fan : FanCommand} (ha : addr.toNat ≤ 15)
    (hf : Safety.fanNamed f.toNat = some fan) : validateTxd cfg addr (some f) = some (addr.setWidth 4, fan) := by
  simp [validateTxd, addressOfField_of_le ha, fanOfField_eq_fanNamed, hf]

/-- A fan's code is the one that names it (30_encoding.md R84). -/
theorem fanCode_of_fanNamed {f : BitVec 3} {fan : FanCommand} (h : Safety.fanNamed f.toNat = some fan) :
    fanCode cfg fan = f := by
  revert f fan; decide

/-- Legal operands come to the transmission of their dumb packet (42_handshake.md R171). -/
theorem acceptTxd_of_validateTxd {c : Config} {addr : BitVec 8} {fan : Option (BitVec 3)} {s : State} {a : BitVec 4}
    {f : FanCommand} (power : Option (BitVec 3)) (hb : s.backend ≠ .unselected)
    (h : validateTxd c addr fan = some (a, f)) :
    acceptTxd c addr fan power s = transmit c (encodeDumb c a f) false f (.level 0) power s := by
  simp [acceptTxd, hb, h]

/-- Settles O26: the operands are valid, the power test passes, and `PWR_L` takes the supplied level or a free value. -/
theorem txdStartsUnderHardware : Obligations.TxdStartsUnderHardware := by
  intro addr f fan power s hi hc hb ha hf hp
  refine ⟨power.getD (Config.freePowerLevel s.tick), fun p h => by rw [h]; rfl, ?_⟩
  rw [exec_txd_of_idle _ _ _ hi hc, acceptTxd_of_validateTxd power (by simp [hb]) (validateTxd_eq_some ha hf),
    transmit_of_hardware _ _ _ _ _ _ hb, if_pos (powerOk_of_forall hp), encodeDumb_eq_dumbLayout,
    fanCode_of_fanNamed hf]
  rfl

/-! ### Which words start a transmission -/

theorem powerOk_iff (power : Option (BitVec 3)) : powerOk cfg power = true ↔ ∀ p, power = some p → p.toNat ≤ 4 :=
  ⟨fun h p hp => (powerOk_some p).1 (hp ▸ h), powerOk_of_forall⟩

/-- A valid operand set leaves Idle under Hardware with a legal power level, and else stays (42_handshake.md R172,
R173). -/
theorem transmit_start_cases (c : Config) (b : Bits) (m : Bool) (f : FanCommand) (l : LightCommand)
    (p : Option (BitVec 3)) {s : State} (hb : s.backend ≠ .unselected) :
    (s.backend = .hardware ∧ powerOk c p = true ∧
      (transmit c b m f l p s).fsm = .poweringUp ∧ (transmit c b m f l p s).result = .none) ∨
    (¬ (s.backend = .hardware ∧ powerOk c p = true) ∧ (transmit c b m f l p s).fsm = s.fsm) := by
  rcases transmit_cases c b m f l p s with ⟨hd, h⟩ | ⟨hd, hp, h⟩ | ⟨_, hp, h⟩
  · exact .inr ⟨by simp [hd], by simp [h]⟩
  · have hw : s.backend = .hardware := by cases h : s.backend <;> simp_all
    exact .inl ⟨hw, hp, by simp [h], by simp [h]⟩
  · exact .inr ⟨by simp [hp], by simp [h]⟩

/-- TXD leaves Idle under Hardware with legal operands and power level, and else stays (42_handshake.md R171). -/
theorem acceptTxd_start_cases (c : Config) (addr : BitVec 8) (fan power : Option (BitVec 3)) {s : State}
    (hb : s.backend ≠ .unselected) :
    (s.backend = .hardware ∧ (validateTxd c addr fan).isSome = true ∧ powerOk c power = true ∧
      (acceptTxd c addr fan power s).fsm = .poweringUp ∧ (acceptTxd c addr fan power s).result = .none) ∨
    (¬ (s.backend = .hardware ∧ (validateTxd c addr fan).isSome = true ∧ powerOk c power = true) ∧
      (acceptTxd c addr fan power s).fsm = s.fsm) := by
  rcases acceptTxd_cases c addr fan power s with ⟨hu, _⟩ | ⟨_, hv, h⟩ | ⟨a, f, _, hv, h⟩
  · exact absurd hu hb
  · exact .inr ⟨by simp [hv], by simp [h]⟩
  · simpa [h, hv] using transmit_start_cases c (encodeDumb c a f) false f (.level 0) power hb

/-- As for TXD (42_handshake.md R181). -/
theorem acceptTxs_start_cases (c : Config) (addr : BitVec 8) (fan : Option (BitVec 3)) (light : Option LightField)
    (power : Option (BitVec 3)) {s : State} (hb : s.backend ≠ .unselected) :
    (s.backend = .hardware ∧ (resolveTxs c addr fan light s.lastFan s.lastLight).isSome = true ∧
      powerOk c power = true ∧
      (acceptTxs c addr fan light power s).fsm = .poweringUp ∧ (acceptTxs c addr fan light power s).result = .none) ∨
    (¬ (s.backend = .hardware ∧ (resolveTxs c addr fan light s.lastFan s.lastLight).isSome = true ∧
        powerOk c power = true) ∧
      (acceptTxs c addr fan light power s).fsm = s.fsm) := by
  rcases acceptTxs_cases c addr fan light power s with ⟨hu, _⟩ | ⟨_, hv, h⟩ | ⟨a, f, l, _, hv, h⟩
  · exact absurd hu hb
  · exact .inr ⟨by simp [hv], by simp [h]⟩
  · simpa [h, hv] using transmit_start_cases c (encodeSmart c a f l) true f l power hb

/-- Resolving succeeds for a legal address and a fan and light that are legal or carried forward. -/
theorem isSome_resolveTxs_iff_smart (addr : BitVec 8) (fan : Option (BitVec 3)) (light : Option LightField) (s : State) :
    (resolveTxs cfg addr fan light s.lastFan s.lastLight).isSome = true ↔
      addr.toNat ≤ 15 ∧ (Safety.smartFan fan s).isSome = true ∧ (Safety.smartLight light s).isSome = true := by
  simp only [← isSome_addressOfField, Option.isSome_iff_exists, Prod.exists, resolveTxs_eq_some_iff,
    elim_fanOfField_eq_smartFan, elim_lightOfField_eq_smartLight, exists_and_left, exists_and_right]

end Sys2Proof.Machine

namespace Sys2Proof.Safety

open Sys2Proof.Machine

/-- `StartsTransmission` for a TXD, through the tests of its accepting step (42_handshake.md R171, R172). -/
theorem startsTransmission_txd {s : State} {addr : BitVec 8} {fan power : Option (BitVec 3)}
    (hd : decodeCommand s.inputs.cmd = .ok (.txd addr fan power)) :
    StartsTransmission s ↔ s.inputs.cmdValid = true ∧ s.closed = false ∧ s.backend = .hardware ∧
      (validateTxd cfg addr fan).isSome = true ∧ powerOk cfg power = true := by
  simp only [StartsTransmission, hd, isSome_validateTxd, isSome_addressOfField, isSome_fanOfField, powerOk_iff, and_assoc]

/-- `StartsTransmission` for a TXS, through the tests of its accepting step (42_handshake.md R181, R172). -/
theorem startsTransmission_txs {s : State} {addr : BitVec 8} {fan : Option (BitVec 3)} {light : Option LightField}
    {power : Option (BitVec 3)} (hd : decodeCommand s.inputs.cmd = .ok (.txs addr fan light power)) :
    StartsTransmission s ↔ s.inputs.cmdValid = true ∧ s.closed = false ∧ s.backend = .hardware ∧
      (resolveTxs cfg addr fan light s.lastFan s.lastLight).isSome = true ∧ powerOk cfg power = true := by
  simp only [StartsTransmission, hd, isSome_resolveTxs_iff_smart, powerOk_iff, and_assoc]

/-- Only a TXD or a TXS starts a transmission. -/
theorem StartsTransmission.transmit_word {s : State} (h : StartsTransmission s) :
    (∃ a f p, decodeCommand s.inputs.cmd = .ok (.txd a f p)) ∨
    (∃ a f l p, decodeCommand s.inputs.cmd = .ok (.txs a f l p)) := by
  obtain ⟨_, _, _, hword⟩ := h
  cases hd : decodeCommand s.inputs.cmd with
  | rejected e => simp [hd] at hword
  | ok i => cases i <;> simp_all

/-- The accepting tick (42_handshake.md R170, first row). -/
theorem dispatchTick_of_startsTransmission {s : State} (hr : s.inputs.rst = false) (hi : s.fsm = .idle)
    (h : StartsTransmission s) : (dispatchTick cfg s).fsm = .poweringUp ∧ (dispatchTick cfg s).result = .none := by
  rcases h.transmit_word with ⟨a, f, p, hd⟩ | ⟨a, f, l, p, hd⟩
  · obtain ⟨hv, hc, hb, hlegal⟩ := (startsTransmission_txd hd).1 h
    have ht : dispatchTick cfg s = acceptTxd cfg a f p s := by simp [dispatchTick, hr, hi, hv, hc, hd]
    rw [ht]
    rcases acceptTxd_start_cases cfg a f p (s := s) (by simp [hb]) with ⟨_, _, _, hnext⟩ | ⟨hn, _⟩
    · exact hnext
    · exact absurd ⟨hb, hlegal⟩ hn
  · obtain ⟨hv, hc, hb, hlegal⟩ := (startsTransmission_txs hd).1 h
    have ht : dispatchTick cfg s = acceptTxs cfg a f l p s := by simp [dispatchTick, hr, hi, hv, hc, hd]
    rw [ht]
    rcases acceptTxs_start_cases cfg a f l p (s := s) (by simp [hb]) with ⟨_, _, _, hnext⟩ | ⟨hn, _⟩
    · exact hnext
    · exact absurd ⟨hb, hlegal⟩ hn

/-- Every other tick in Idle stays there (42_handshake.md R170). -/
theorem dispatchTick_fsm_of_not_startsTransmission {s : State} (hr : s.inputs.rst = false) (hi : s.fsm = .idle)
    (h : ¬ StartsTransmission s) : (dispatchTick cfg s).fsm = .idle := by
  rcases dispatchTick_idle_rule cfg s hr hi with ⟨_, ht⟩ | ⟨_, ht⟩ | ⟨_, _, _, ht⟩ | ⟨_, _, _, ht⟩ |
    ⟨hv, hc, hb, a, f, p, hd, ht⟩ | ⟨hv, hc, hb, a, f, l, p, hd, ht⟩ <;> rw [ht]
  · exact hi
  · exact hi
  · rcases selectBackend_cases s with ⟨_, h⟩ | ⟨_, _, h⟩ | ⟨_, _, h⟩ <;> simp [h, hi]
  · exact hi
  · rcases acceptTxd_start_cases cfg a f p hb with ⟨hw, hlegal, hp, _⟩ | ⟨_, hf⟩
    · exact absurd ((startsTransmission_txd hd).2 ⟨hv, hc, hw, hlegal, hp⟩) h
    · exact hf.trans hi
  · rcases acceptTxs_start_cases cfg a f l p hb with ⟨hw, hlegal, hp, _⟩ | ⟨_, hf⟩
    · exact absurd ((startsTransmission_txs hd).2 ⟨hv, hc, hw, hlegal, hp⟩) h
    · exact hf.trans hi

end Sys2Proof.Safety

/-! PROOFS. The next state as a function, the steps of the four busy states written out (42_handshake.md R175 to R180), the
transitions of the state machine (R170), and what the driver does not read (R184). -/

namespace Sys2Proof.Safety

open Sys2Proof.Machine

/-! ### The next state -/

/-- The state after one tick; `step_eq_nextState` ties it to the step. -/
def nextState (s : State) : State := advance (dispatchTick cfg s)

theorem step_eq_nextState (s : State) : step s = .next (nextState s) := step_eq_dispatchTick s

theorem eq_nextState_of_step {s t : State} (h : step s = .next t) : t = nextState s := eq_of_step h

/-- A busy tick is the step of `FSM`; only `REJ` depends on whether a word is presented (43_backend.md R216). -/
theorem nextState_of_busy {s : State} (hr : s.inputs.rst = false) (hi : s.fsm ≠ .idle) :
    ∃ b, nextState s = { advance (fsmStep cfg s) with rej := b } := by
  obtain ⟨b, h, _⟩ := dispatchTick_busy_cases cfg s hr hi
  exact ⟨b, by rw [nextState, h]; rfl⟩

/-! ### The steps of the busy states, with no word presented -/

theorem step_of_busy {s : State} (hi : s.fsm ≠ .idle) (hr : s.inputs.rst = false) (hv : s.inputs.cmdValid = false) :
    step s = .next (advance (fsmStep cfg s)) := by
  rw [step_eq_dispatchTick, dispatchTick_busy hr hi hv]

/-- Settles O37: the write shown and the branch taken both depend on `PWR_V`. -/
theorem poweringUpStepResult : Obligations.PoweringUpStepResult := by
  intro s hf hr hv
  refine ⟨by simp [busWrite, hf], ?_⟩
  rw [step_of_busy (by simp [hf]) hr hv, fsmStep_of_poweringUp cfg hf]
  rcases poweringUpStep_cases s with ⟨hp, he, h⟩ | ⟨hn, h⟩
  · rw [h, if_pos ⟨hp, he⟩]
    simp [raise, assertEnable, hf]
  · rw [h, if_neg (by rintro ⟨hp, he⟩; simp [hp, he] at hn)]
    rfl

/-- Settles O38: ready, the bound reached, or one more low sample. -/
theorem awaitingReadyStepResult : Obligations.AwaitingReadyStepResult := by
  intro s hf hr hv
  rw [step_of_busy (by simp [hf]) hr hv, fsmStep_of_awaitingReady cfg hf]
  rcases awaitingReadyStep_cases cfg s with ⟨hy, h⟩ | ⟨hy, ht, h⟩ | ⟨hy, ht, h⟩
  · rw [h, if_pos hy]; rfl
  · rw [h, if_neg (by simp [hy]), if_pos ht]; rfl
  · rw [h, if_neg (by simp [hy]), if_neg (Nat.not_le.2 ht)]; rfl

theorem currentLevel_of_getElem? {c : Config} {s : State} {p : Pulse} (h : (modulate c s.pkt)[s.pidx]? = some p) :
    currentLevel c s = p.level := by
  simp [currentLevel, h]

/-- Settles O39: the level under the position is the pulse's. -/
theorem transmittingStepResult : Obligations.TransmittingStepResult := by
  intro s p hf hp hr hv
  rw [step_of_busy (by simp [hf]) hr hv, fsmStep_of_transmitting cfg hf, currentLevel_of_getElem? hp]
  rcases emitTick_cases cfg p.level s with ⟨he, h⟩ | ⟨he, h⟩
  · rw [h, if_pos he]
    simp [raise, hf]
  · rw [h, if_neg (by simp [he])]
    rfl

/-- Settles O40: the result still open, or an error kept. -/
theorem poweringDownStepResult : Obligations.PoweringDownStepResult := by
  intro s hf hr hv
  rw [step_of_busy (by simp [hf]) hr hv, fsmStep_of_poweringDown cfg hf]
  rcases returnToIdle_cases s with ⟨hn, h⟩ | ⟨hn, h⟩
  · rw [h, if_pos hn]; rfl
  · rw [h, if_neg hn]; rfl

/-! ### The transitions of the state machine -/

/-- Settles O48: the accepting tick and the other Idle ticks by their own lemmas, each busy state by its step's cases. -/
theorem transitionsOfTheTable : Obligations.TransitionsOfTheTable := by
  intro s t hr h
  obtain rfl := eq_nextState_of_step h
  cases hf : s.fsm with
  | idle => exact ⟨dispatchTick_of_startsTransmission hr hf, dispatchTick_fsm_of_not_startsTransmission hr hf⟩
  | poweringUp =>
    obtain ⟨b, ht⟩ := nextState_of_busy hr (by simp [hf])
    rw [ht, fsmStep_of_poweringUp cfg hf]
    rcases poweringUpStep_cases s with ⟨hp, he, h⟩ | ⟨hp | he, h⟩
    · simp [h, hp, he]
    · simp [h, hp]
    · simp [h, he]
  | awaitingReady =>
    obtain ⟨b, ht⟩ := nextState_of_busy hr (by simp [hf])
    rw [ht, fsmStep_of_awaitingReady cfg hf]
    rcases awaitingReadyStep_cases cfg s with ⟨hy, h⟩ | ⟨hy, hb, h⟩ | ⟨hy, hb, h⟩
    · simp [h, hy]
    · simp [h, hy, Nat.not_lt.2 hb]
    · simp [h, hy, hb, hf]
  | transmitting =>
    obtain ⟨b, ht⟩ := nextState_of_busy hr (by simp [hf])
    rw [ht]
    rcases fsmStep_transmitting_cases cfg hf with ⟨he, h⟩ | ⟨he, hd, h⟩ | ⟨he, hd, hp, h⟩ | ⟨he, hd, hp, h⟩
    · simp [h, he]
    · simp [h, he, Nat.not_le.2 hd, hf]
    · simp [h, he, Nat.not_le.2 hp, hf]
    · simp [h, he, hd, hp]
  | poweringDown =>
    obtain ⟨b, ht⟩ := nextState_of_busy hr (by simp [hf])
    rw [ht, fsmStep_of_poweringDown cfg hf]
    rcases returnToIdle_cases s with ⟨hn, h⟩ | ⟨hn, h⟩ <;> simp [h, hn]

/-! ### What the driver does not read (42_handshake.md R184) -/

/-- The state with the pending and the last-known values hidden: two states that differ in those alone look the same. -/
def hideValues (s : State) : State :=
  { s with pendSmart := false, pendFan := .off, pendLight := .level 0, lastFan := .off, lastLight := .level 0 }

theorem hideValues_inputs (s : State) : (hideValues s).inputs = s.inputs := inputs_congr rfl rfl

theorem hideValues_ite (p : Prop) [Decidable p] (s t : State) :
    hideValues (if p then s else t) = if p then hideValues s else hideValues t := apply_ite hideValues p s t

/-- With the values hidden the step of a busy state is the same, but for the values it commits. -/
theorem hideValues_fsmStep (c : Config) (s : State) :
    hideValues (fsmStep c (hideValues s)) = hideValues (fsmStep c s) := by
  cases hf : s.fsm with
  | idle => rw [fsmStep_of_idle c hf, fsmStep_of_idle c (s := hideValues s) hf]; rfl
  | poweringUp =>
    rw [fsmStep_of_poweringUp c hf, fsmStep_of_poweringUp c (s := hideValues s) hf]
    simp only [poweringUpStep, hideValues_inputs, hideValues_ite]
    rfl
  | awaitingReady =>
    rw [fsmStep_of_awaitingReady c hf, fsmStep_of_awaitingReady c (s := hideValues s) hf]
    simp only [awaitingReadyStep, hideValues_inputs, hideValues_ite]
    rfl
  | transmitting =>
    rw [fsmStep_of_transmitting c hf, fsmStep_of_transmitting c (s := hideValues s) hf]
    simp only [emitTick, advancePulse, hideValues_inputs, hideValues_ite]
    rfl
  | poweringDown =>
    rw [fsmStep_of_poweringDown c hf, fsmStep_of_poweringDown c (s := hideValues s) hf]
    simp only [returnToIdle, hideValues_ite]
    rfl

/-- A busy tick moves everything but the hidden values the same way. -/
theorem hideValues_nextState {s : State} (hi : s.fsm ≠ .idle) :
    hideValues (nextState (hideValues s)) = hideValues (nextState s) := by
  have hi' : (hideValues s).fsm ≠ .idle := hi
  have hin := hideValues_inputs s
  unfold nextState
  cases hr : s.inputs.rst with
  | true => rw [dispatchTick_reset hr, dispatchTick_reset (hin ▸ hr)]; rfl
  | false =>
    have hstep := congrArg advance (hideValues_fsmStep cfg s)
    cases hv : s.inputs.cmdValid with
    | false => rw [dispatchTick_busy hr hi hv, dispatchTick_busy (hin ▸ hr) hi' (hin ▸ hv)]; exact hstep
    | true =>
      rw [dispatchTick_busy_word hr hi hv, dispatchTick_busy_word (hin ▸ hr) hi' (hin ▸ hv), fsmStep_reject,
        fsmStep_reject]
      exact congrArg reject hstep

/-- Settles O54: both states look like `hideValues s`, and the registers named are none of the hidden ones. -/
theorem driverIsVariantBlind : Obligations.DriverIsVariantBlind := by
  intro s t smart f lf l ll hi h
  obtain rfl := eq_nextState_of_step h
  refine ⟨_, step_eq_nextState _, ?_⟩
  generalize hu : ({ s with pendSmart := smart, pendFan := f, pendLight := l, lastFan := lf, lastLight := ll } : State) = u
  have hsame : hideValues u = hideValues s := by rw [← hu]; rfl
  have hui : u.fsm ≠ .idle := by rw [← hu]; exact hi
  have hnext : hideValues (nextState u) = hideValues (nextState s) := by
    rw [← hideValues_nextState hui, hsame, hideValues_nextState hi]
  exact ⟨congrArg (·.fsm) hnext, congrArg (·.en) hnext, congrArg (·.tx) hnext, congrArg (·.result) hnext,
    congrArg (·.pidx) hnext, congrArg (·.dcnt) hnext, congrArg (·.timer) hnext, congrArg (·.pkt) hnext⟩

end Sys2Proof.Safety

/-! PROOFS. Runs of the driver: a bus failure in the burst (42_handshake.md R179), the bounded wait (R177), the burst as the
waveform of the packet (R178), and the trace of a successful transmission (R182). -/

namespace Sys2Proof.Safety

open Sys2Proof.Machine

/-! ### A run as an iteration -/

/-- A run is the next state taken again and again. -/
theorem run_eq_iterate (k : Nat) (s : State) : run k s = .next (nextState^[k] s) := by
  induction k generalizing s with
  | zero => rfl
  | succ k ih => rw [run_succ k s _ (step_eq_nextState s), ih, Function.iterate_succ_apply]

/-- The inputs ahead, one tick later. -/
theorem inputsAt_nextState (s : State) (k : Nat) : inputsAt (nextState s) k = inputsAt s (k + 1) := by
  obtain ⟨he, ht⟩ := dispatchTick_keeps cfg s
  exact inputsAt_succ s _ k (by rw [nextState, advance_env, he]) (by rw [nextState, advance_tick, ht])

/-- The inputs ahead, some ticks later. -/
theorem inputsAt_iterate (s : State) (j k : Nat) : inputsAt (nextState^[j] s) k = inputsAt s (j + k) := by
  induction j generalizing k with
  | zero => rw [Nat.zero_add]; rfl
  | succ j ih =>
    rw [Function.iterate_succ_apply', inputsAt_nextState, ih]
    congr 1
    omega

/-- The inputs of the coming tick, some ticks later. -/
theorem inputs_iterate (s : State) (j : Nat) : (nextState^[j] s).inputs = inputsAt s j := by
  rw [← inputsAt_zero, inputsAt_iterate, Nat.add_zero]

theorem SafeState.iterate {s : State} (hs : SafeState s) (k : Nat) : SafeState (nextState^[k] s) := by
  induction k with
  | zero => exact hs
  | succ k ih => rw [Function.iterate_succ_apply']; exact ih.step (step_eq_nextState _)

/-! ### One tick of a busy state -/

theorem nextState_pkt {s : State} (hr : s.inputs.rst = false) (hi : s.fsm ≠ .idle) : (nextState s).pkt = s.pkt := by
  obtain ⟨b, h⟩ := nextState_of_busy hr hi
  obtain ⟨_, _, _, _, _, hpkt, _⟩ := fsmStep_keeps cfg s
  rw [h]
  exact hpkt

/-- The accepting tick leaves the result open (42_handshake.md R173). -/
theorem nextState_result_of_started {s : State} (hr : s.inputs.rst = false) (hi : s.fsm = .idle)
    (h : (nextState s).fsm = .poweringUp) : (nextState s).result = .none := by
  by_cases hst : StartsTransmission s
  · exact (dispatchTick_of_startsTransmission hr hi hst).2
  · have hidle := dispatchTick_fsm_of_not_startsTransmission hr hi hst
    rw [nextState, advance_fsm, hidle] at h
    cases h

/-- PoweringUp without a failed write: the wait begins (42_handshake.md R175). -/
theorem nextState_of_poweringUp {s : State} (hr : s.inputs.rst = false) (hf : s.fsm = .poweringUp)
    (hb : s.pwrV = true → s.inputs.busErr = false) :
    (nextState s).fsm = .awaitingReady ∧ (nextState s).timer = 0 ∧ (nextState s).result = s.result := by
  obtain ⟨b, ht⟩ := nextState_of_busy hr (by simp [hf])
  rw [ht, fsmStep_of_poweringUp cfg hf]
  rcases poweringUpStep_cases s with ⟨hp, he, _⟩ | ⟨_, h⟩
  · rw [hb hp] at he; cases he
  · simp [h]

/-- A low sample before the bound is counted (42_handshake.md R176). -/
theorem nextState_of_low {s : State} (hr : s.inputs.rst = false) (hf : s.fsm = .awaitingReady)
    (hy : s.inputs.readyIn = false) (ht : s.timer + 1 < cfg.readyTimeout) :
    (nextState s).fsm = .awaitingReady ∧ (nextState s).timer = s.timer + 1 ∧ (nextState s).tx = s.tx ∧
      (nextState s).result = s.result := by
  obtain ⟨b, h⟩ := nextState_of_busy hr (by simp [hf])
  rw [h, fsmStep_of_awaitingReady cfg hf]
  rcases awaitingReadyStep_cases cfg s with ⟨hy', _⟩ | ⟨_, hb, _⟩ | ⟨_, _, h⟩
  · rw [hy] at hy'; cases hy'
  · omega
  · simp [h, hf]

/-- The ready line is high: the burst begins at the first pulse (42_handshake.md R176). -/
theorem nextState_of_ready {s : State} (hr : s.inputs.rst = false) (hf : s.fsm = .awaitingReady)
    (hy : s.inputs.readyIn = true) :
    (nextState s).fsm = .transmitting ∧ (nextState s).pidx = 0 ∧
      (nextState s).dcnt = pulseDuration (modulate cfg s.pkt) 0 ∧ (nextState s).tx = s.tx ∧
      (nextState s).result = s.result := by
  obtain ⟨b, h⟩ := nextState_of_busy hr (by simp [hf])
  rw [h, fsmStep_of_awaitingReady cfg hf]
  rcases awaitingReadyStep_cases cfg s with ⟨_, h⟩ | ⟨hy', _⟩ | ⟨hy', _⟩
  · simp [h]
  · rw [hy] at hy'; cases hy'
  · rw [hy] at hy'; cases hy'

/-- A bus failure in the burst (42_handshake.md R179). -/
theorem nextState_of_burst_failure {s : State} (hr : s.inputs.rst = false) (hf : s.fsm = .transmitting)
    (he : s.inputs.busErr = true) :
    ∃ b, nextState s = { advance (raise .transmissionFailed s) with rej := b } := by
  obtain ⟨b, h⟩ := nextState_of_busy hr (by simp [hf])
  rcases fsmStep_transmitting_cases cfg hf with ⟨_, ht⟩ | ⟨he', _⟩ | ⟨he', _⟩ | ⟨he', _⟩
  · exact ⟨b, by rw [h, ht]⟩
  all_goals rw [he] at he'; cases he'

/-- The return to Idle (42_handshake.md R180). -/
theorem nextState_of_poweringDown {s : State} (hr : s.inputs.rst = false) (hf : s.fsm = .poweringDown) :
    ∃ b, nextState s = { advance (returnToIdle s) with rej := b } := by
  obtain ⟨b, h⟩ := nextState_of_busy hr (by simp [hf])
  exact ⟨b, by rw [h, fsmStep_of_poweringDown cfg hf]⟩

/-- The return of a transmission that did not fail (42_handshake.md R180). -/
theorem nextState_of_success {s : State} (hr : s.inputs.rst = false) (hf : s.fsm = .poweringDown)
    (hn : s.result = .none) : (nextState s).fsm = .idle ∧ (nextState s).result = .ok := by
  obtain ⟨b, h⟩ := nextState_of_poweringDown hr hf
  rcases returnToIdle_cases s with ⟨_, hs⟩ | ⟨he, _⟩
  · simp [h, hs]
  · exact absurd hn he

/-- After an error the return commits nothing. -/
theorem returnToIdle_of_error {s : State} (h : s.result ≠ .none) : returnToIdle s = releaseLines s := if_neg h

/-- Settles O56: the failing tick raises the error, the next one is the return after an error. -/
theorem busFailureIsPrecise : Obligations.BusFailureIsPrecise := by
  intro s hf hr he hr1
  obtain ⟨b, h1⟩ := nextState_of_burst_failure hr hf he
  have hr2 : (nextState s).inputs.rst = false := by rwa [← inputsAt_zero, inputsAt_nextState]
  obtain ⟨b2, h2⟩ := nextState_of_poweringDown hr2 (by rw [h1]; rfl)
  rw [returnToIdle_of_error (by rw [h1]; simp)] at h2
  refine ⟨⟨_, run_eq_iterate 1 s, ?_⟩, ⟨_, run_eq_iterate 2 s, ?_⟩⟩
  · simp [h1, hf]
  · rw [show nextState^[2] s = nextState (nextState s) from rfl, h2, h1]
    simp

/-! ### The wait (42_handshake.md R176, R177) -/

/-- While the samples are low and the bound is not reached the wait goes on. -/
theorem iterate_of_low {s : State} {n : Nat} (hf : s.fsm = .awaitingReady) (ht : s.timer + n < cfg.readyTimeout)
    (hin : ∀ k, k < n → (inputsAt s k).rst = false ∧ (inputsAt s k).readyIn = false) :
    (nextState^[n] s).fsm = .awaitingReady ∧ (nextState^[n] s).timer = s.timer + n ∧ (nextState^[n] s).tx = s.tx ∧
      (nextState^[n] s).result = s.result ∧ (nextState^[n] s).pkt = s.pkt := by
  induction n with
  | zero => exact ⟨hf, rfl, rfl, rfl, rfl⟩
  | succ n ih =>
    obtain ⟨hf', ht', htx, hres, hpkt⟩ := ih (by omega) fun k hk => hin k (by omega)
    obtain ⟨hr, hy⟩ := hin n (by omega)
    rw [← inputs_iterate] at hr hy
    obtain ⟨hf2, ht2, htx2, hres2⟩ := nextState_of_low hr hf' hy (by omega)
    rw [Function.iterate_succ_apply']
    exact ⟨hf2, by omega, htx2.trans htx, hres2.trans hres, (nextState_pkt hr (by simp [hf'])).trans hpkt⟩

/-- The wait is left within as many ticks as samples are missing to the bound. -/
theorem exists_leaves_awaitingReady {s : State} {n : Nat} (hf : s.fsm = .awaitingReady)
    (ht : s.timer < cfg.readyTimeout) (hn : cfg.readyTimeout ≤ s.timer + n)
    (hin : ∀ k, k < n → (inputsAt s k).rst = false) :
    ∃ k, 1 ≤ k ∧ k ≤ n ∧
      ((nextState^[k] s).fsm = .transmitting ∨ (nextState^[k] s).fsm = .poweringDown) := by
  induction n generalizing s with
  | zero => omega
  | succ n ih =>
    have hr : s.inputs.rst = false := by rw [← inputsAt_zero]; exact hin 0 (by omega)
    obtain ⟨b, h⟩ := nextState_of_busy hr (by simp [hf])
    rw [fsmStep_of_awaitingReady cfg hf] at h
    rcases awaitingReadyStep_cases cfg s with ⟨_, hs⟩ | ⟨_, _, hs⟩ | ⟨_, hlt, hs⟩ <;> rw [hs] at h
    · exact ⟨1, le_refl 1, by omega, .inl (by simp [h])⟩
    · exact ⟨1, le_refl 1, by omega, .inr (by simp [h])⟩
    · obtain ⟨k, hk, hkn, hleft⟩ := ih (s := nextState s) (by simp [h, hf]) (by simpa [h] using hlt)
        (by rw [h]; change _ ≤ s.timer + 1 + n; omega)
        fun k hk => by rw [inputsAt_nextState]; exact hin (k + 1) (by omega)
      exact ⟨k + 1, by omega, by omega, by rwa [Function.iterate_succ_apply]⟩

/-- Settles O57: at the beginning of the wait the whole bound is missing. -/
theorem readyWaitIsBounded : Obligations.ReadyWaitIsBounded := by
  intro s hf ht hin
  obtain ⟨k, hk, hkn, hleft⟩ := exists_leaves_awaitingReady hf (by rw [ht]; exact one_le_cfg_readyTimeout)
    (by omega) hin
  exact ⟨k, _, hk, hkn, run_eq_iterate k s, hleft⟩

/-! ### The burst (42_handshake.md R178) -/

/-- In the burst with the levels `w` still to be emitted: the rest of the pulse at the position, then the later pulses. -/
structure BurstLeft (s : State) (w : List Bool) : Prop where
  fsm : s.fsm = .transmitting
  pending : 1 ≤ s.dcnt
  levels : ∃ p, (modulate cfg s.pkt)[s.pidx]? = some p ∧
    w = List.replicate s.dcnt p.level ++ expand ((modulate cfg s.pkt).drop (s.pidx + 1))

/-- In the burst some level is still to be emitted. -/
theorem BurstLeft.ne_nil {s : State} {w : List Bool} (h : BurstLeft s w) : w ≠ [] := by
  obtain ⟨_, hd, p, _, rfl⟩ := h
  obtain ⟨n, hn⟩ := Nat.exists_eq_add_of_le' hd
  simp [hn, List.replicate_succ]

theorem expand_cons (p : Pulse) (ps : List Pulse) : expand (p :: ps) = List.replicate p.duration p.level ++ expand ps :=
  List.flatMap_cons

theorem pulseDuration_of_getElem? {ps : List Pulse} {k : Nat} {p : Pulse} (h : ps[k]? = some p) :
    pulseDuration ps k = p.duration := by
  simp [pulseDuration, h]

/-- At the first tick of a pulse, that pulse and the later ones are left. -/
theorem burstLeft_of_pulse_start {s : State} (hf : s.fsm = .transmitting) (hp : s.pidx < (modulate cfg s.pkt).length)
    (hd : s.dcnt = pulseDuration (modulate cfg s.pkt) s.pidx) :
    BurstLeft s (expand ((modulate cfg s.pkt).drop s.pidx)) := by
  have hget := List.getElem?_eq_getElem hp
  refine ⟨hf, hd ▸ one_le_pulseDuration _ _ hp, _, hget, ?_⟩
  rw [List.drop_eq_getElem_cons hp, expand_cons, hd, pulseDuration_of_getElem? hget]

/-- One tick of the burst: the first level left is on the line; then the others are left, or the burst is over. -/
theorem BurstLeft.tick {s : State} {v : Bool} {w : List Bool} (h : BurstLeft s (v :: w))
    (hr : s.inputs.rst = false) (he : s.inputs.busErr = false) :
    (nextState s).tx = v ∧ (nextState s).result = s.result ∧
      (w = [] ∧ (nextState s).fsm = .poweringDown ∨ w ≠ [] ∧ BurstLeft (nextState s) w) := by
  obtain ⟨hf, hd, p, hp, hw⟩ := h
  obtain ⟨n, hn⟩ := Nat.exists_eq_add_of_le' hd
  rw [hn, List.replicate_succ, List.cons_append, List.cons.injEq] at hw
  obtain ⟨rfl, hw⟩ := hw
  have hlevel := currentLevel_of_getElem? hp
  obtain ⟨b, ht⟩ := nextState_of_busy hr (by simp [hf])
  rcases fsmStep_transmitting_cases cfg hf with ⟨he', _⟩ | ⟨_, hlt, h⟩ | ⟨_, hle, hnext, h⟩ | ⟨_, hle, hend, h⟩
  · rw [he] at he'; cases he'
  · -- the pulse goes on
    rw [h] at ht
    have hleft : BurstLeft (nextState s) w :=
      ⟨by simp [ht, hf], by rw [ht]; exact Nat.le_sub_of_add_le hlt, p, by simp [ht, hp], by simp [ht, hw, hn]⟩
    exact ⟨by simp [ht, hlevel], by simp [ht], .inr ⟨hleft.ne_nil, hleft⟩⟩
  · -- the next pulse begins
    have hn0 : n = 0 := by omega
    rw [hn0, List.replicate_zero, List.nil_append] at hw
    rw [h] at ht
    have hstart := burstLeft_of_pulse_start (s := nextState s) (by simp [ht, hf]) (by simpa [ht] using hnext)
      (by simp [ht])
    have hleft : BurstLeft (nextState s) w := by simpa [hw, ht] using hstart
    exact ⟨by simp [ht, hlevel], by simp [ht], .inr ⟨hleft.ne_nil, hleft⟩⟩
  · -- that was the last pulse
    have hn0 : n = 0 := by omega
    rw [hn0, List.drop_of_length_le hend] at hw
    rw [h] at ht
    exact ⟨by simp [ht, hlevel], by simp [ht], .inl ⟨hw, by simp [ht]⟩⟩

/-- Without a reset or a bus failure the levels left come one a tick, and the burst ends with the last of them. -/
theorem BurstLeft.emits {s : State} {w : List Bool} (h : BurstLeft s w)
    (hin : ∀ k, k < w.length → (inputsAt s k).rst = false ∧ (inputsAt s k).busErr = false) {k : Nat}
    (hk : k < w.length) :
    w[k]? = some (nextState^[k + 1] s).tx ∧
      (nextState^[k + 1] s).fsm = (if k + 1 < w.length then .transmitting else .poweringDown) ∧
      (nextState^[k + 1] s).result = s.result := by
  induction w generalizing s k with
  | nil => exact absurd hk (Nat.not_lt_zero k)
  | cons v w ih =>
    have hin0 := hin 0 (Nat.succ_pos _)
    rw [inputsAt_zero] at hin0
    obtain ⟨htx, hres, hrest⟩ := h.tick hin0.1 hin0.2
    rw [Function.iterate_succ_apply]
    cases k with
    | zero =>
      rcases hrest with ⟨rfl, hf⟩ | ⟨hne, hleft⟩
      · simp [htx, hres, hf]
      · simp [htx, hres, hleft.fsm, List.length_pos_iff.2 hne]
    | succ k =>
      have hk' : k < w.length := Nat.lt_of_succ_lt_succ hk
      rcases hrest with ⟨rfl, _⟩ | ⟨_, hleft⟩
      · exact absurd hk' (Nat.not_lt_zero k)
      · have hlater := ih hleft
          (fun i hi => by rw [inputsAt_nextState]; exact hin (i + 1) (Nat.succ_lt_succ hi)) hk'
        simpa [hres] using hlater

/-- At the first tick of the burst the whole waveform is left. -/
theorem burstLeft_waveform {s : State} (hf : s.fsm = .transmitting) (hp : s.pidx = 0)
    (hd : s.dcnt = pulseDuration (modulate cfg s.pkt) 0) : BurstLeft s (waveform s.pkt) := by
  have hpos := modulate_cfg_pos s.pkt
  simpa [hp, waveform] using burstLeft_of_pulse_start hf (by rwa [hp]) (by rwa [hp])

/-- Settles O55: the levels left at the first tick are the waveform. -/
theorem burstEmitsWaveform : Obligations.BurstEmitsWaveform := by
  intro s hf hp hd hin k hk
  obtain ⟨htx, hfsm, _⟩ := (burstLeft_waveform hf hp hd).emits hin hk
  exact ⟨_, run_eq_iterate (k + 1) s, htx, hfsm⟩

/-! ### The trace of a successful transmission (42_handshake.md R182) -/

/-- The inputs of a transmission from the beginning of its wait on: the `r`-th sample of the ready line is the first high
one, in time, and neither a reset nor a failure of the `n` emissions comes (42_handshake.md R182). -/
structure ReadyThenNoFailure (s : State) (r n : Nat) : Prop where
  pos : 1 ≤ r
  in_time : r ≤ cfg.readyTimeout
  no_reset : ∀ k, k < 1 + r + n → (inputsAt s k).rst = false
  low : ∀ k, k + 1 < r → (inputsAt s k).readyIn = false
  high : (inputsAt s (r - 1)).readyIn = true
  no_failure : ∀ k, k < n → (inputsAt s (r + k)).busErr = false

/-- After the `r` samples of the wait the whole waveform is left. -/
theorem ReadyThenNoFailure.burstLeft {s : State} {r n : Nat} (h : ReadyThenNoFailure s r n) (hf : s.fsm = .awaitingReady)
    (ht : s.timer = 0) : BurstLeft (nextState^[r] s) (waveform s.pkt) ∧ (nextState^[r] s).tx = s.tx ∧
      (nextState^[r] s).result = s.result := by
  obtain ⟨hpos, hin_time, hrst, hlow, hhigh, _⟩ := h
  obtain ⟨m, rfl⟩ := Nat.exists_eq_add_of_le' hpos
  obtain ⟨hf', _, htx, hres, hpkt⟩ := iterate_of_low (n := m) hf (by omega)
    fun k hk => ⟨hrst k (by omega), hlow k (by omega)⟩
  have hr := hrst m (by omega)
  rw [← inputs_iterate] at hr
  rw [Nat.add_sub_cancel, ← inputs_iterate] at hhigh
  obtain ⟨hf2, hp, hd, htx2, hres2⟩ := nextState_of_ready hr hf' hhigh
  have hpkt2 := (nextState_pkt hr (by simp [hf'])).trans hpkt
  rw [Function.iterate_succ_apply']
  refine ⟨hpkt2 ▸ burstLeft_waveform hf2 hp ?_, htx2.trans htx, hres2.trans hres⟩
  rw [hd, hpkt2, hpkt]

/-- What the ports and `RESULT` show after `j` ticks of a transmission of the levels `w` with ready at the `r`-th sample; `v`
says whether a power level was supplied (42_handshake.md R182). -/
def ShowsTrace (w : List Bool) (v : Bool) (r j : Nat) (t : State) : Prop :=
  t.en = decide (2 ≤ j ∧ j ≤ 2 + r + w.length) ∧
  t.tx = (if 3 + r ≤ j then (w[j - (3 + r)]?).getD false else false) ∧
  busy t = decide (j ≤ 2 + r + w.length) ∧
  t.result = (if j ≤ 2 + r + w.length then .none else .ok) ∧
  busWrValid cfg t = (decide (j = 1) && v)

/-- The tick after the accepting one: the lines are still low, and the write is shown. -/
theorem showsTrace_accepted {t : State} (ht : SafeState t) (hf : t.fsm = .poweringUp) (hres : t.result = .none)
    (w : List Bool) (r : Nat) : ShowsTrace w t.pwrV r 1 t := by
  have hen : t.en = false := by simpa [hf] using ht.en_iff
  have htx : t.tx = false := by simpa [hf] using ht.tx_only
  have hle : 1 ≤ 2 + r + w.length := by omega
  refine ⟨by simp [hen], by rw [htx, if_neg (by omega)], by simp [busy, hf, hle], by simp [hres, hle], ?_⟩
  cases hv : t.pwrV <;> simp [busWrValid, busWrite, hf, hv]

/-- From the wait to the last level: the enable line is high and the result open. -/
theorem showsTrace_enabled {t : State} {w : List Bool} {r j : Nat} (ht : SafeState t)
    (hf : t.fsm = .awaitingReady ∨ t.fsm = .transmitting ∨ t.fsm = .poweringDown) (hres : t.result = .none)
    (htx : t.tx = (if 3 + r ≤ j then (w[j - (3 + r)]?).getD false else false)) (hj : 2 ≤ j)
    (hjn : j ≤ 2 + r + w.length) (v : Bool) : ShowsTrace w v r j t := by
  have hi : t.fsm ≠ .idle := by rcases hf with h | h | h <;> simp [h]
  have hu : t.fsm ≠ .poweringUp := by rcases hf with h | h | h <;> simp [h]
  have hj1 : j ≠ 1 := by omega
  exact ⟨by simp [ht.en_iff.2 hf, hj, hjn], htx, by simp [busy, hi, hjn], by simp [hres, hjn],
    by simp [busWrValid, busWrite, hu, hj1]⟩

/-- The last tick: the lines are released and the result is `Ok`. -/
theorem showsTrace_done {t : State} {w : List Bool} {r j : Nat} (ht : SafeState t) (hf : t.fsm = .idle)
    (hres : t.result = .ok) (hj : j = 3 + r + w.length) (v : Bool) : ShowsTrace w v r j t := by
  obtain ⟨hen, htx⟩ := ht.idle_safe hf
  have hlt : ¬ j ≤ 2 + r + w.length := by omega
  have hj1 : j ≠ 1 := by omega
  have hlen : j - (3 + r) = w.length := by omega
  exact ⟨by simp [hen, hlt], by simp [htx, hlen], by simp [busy, hf, hlt], by simp [hres, hlt],
    by simp [busWrValid, busWrite, hf, hj1]⟩

/-- The trace from the beginning of the wait on, two ticks after the beginning of the whole transmission: `r` samples, the
levels, and the return to Idle. -/
theorem showsTrace_of_awaitingReady {s : State} {r i : Nat} (hs : SafeState s) (hf : s.fsm = .awaitingReady)
    (ht : s.timer = 0) (hres : s.result = .none) (h : ReadyThenNoFailure s r (waveform s.pkt).length)
    (hi : i ≤ 1 + r + (waveform s.pkt).length) (v : Bool) :
    ShowsTrace (waveform s.pkt) v r (2 + i) (nextState^[i] s) := by
  have hsafe := hs.iterate i
  have htx0 : s.tx = false := by simpa [hf] using hs.tx_only
  obtain ⟨hburst, htxr, hresr⟩ := h.burstLeft hf ht
  have hemits := fun k => hburst.emits (k := k) fun k hk => by
    rw [inputsAt_iterate]
    exact ⟨h.no_reset (r + k) (by omega), h.no_failure k hk⟩
  simp only [← Function.iterate_add_apply] at hemits
  rcases Nat.lt_trichotomy i r with hlt | rfl | hgt
  · -- a low sample
    have hin_time := h.in_time
    obtain ⟨hfi, _, htx, hresi, _⟩ := iterate_of_low (n := i) hf (by omega)
      fun k hk => ⟨h.no_reset k (by omega), h.low k (by omega)⟩
    exact showsTrace_enabled hsafe (.inl hfi) (hresi.trans hres) (by rw [htx, htx0, if_neg (by omega)]) (by omega)
      (by omega) v
  · -- the high sample
    exact showsTrace_enabled hsafe (.inr (.inl hburst.fsm)) (hresr.trans hres)
      (by rw [htxr, htx0, if_neg (by omega)]) (by omega) (by omega) v
  · obtain ⟨k, rfl⟩ := Nat.exists_eq_add_of_lt hgt
    rw [show r + k + 1 = k + 1 + r by omega] at hi hsafe ⊢
    by_cases hk : k < (waveform s.pkt).length
    · -- level `k` of the waveform
      obtain ⟨htx, hfsm, hresk⟩ := hemits k hk
      refine showsTrace_enabled hsafe (.inr ?_) (hresk.trans (hresr.trans hres)) ?_ (by omega) (by omega) v
      · rw [hfsm]; split <;> simp
      · rw [if_pos (by omega), show 2 + (k + 1 + r) - (3 + r) = k by omega, htx, Option.getD_some]
    · -- the return to Idle
      obtain ⟨n, hn⟩ := Nat.exists_eq_add_of_le' (List.length_pos_iff.2 hburst.ne_nil)
      obtain rfl : k = n + 1 := by omega
      obtain ⟨_, hfsm, hresn⟩ := hemits n (by omega)
      rw [if_neg (by omega)] at hfsm
      have hr : (nextState^[n + 1 + r] s).inputs.rst = false := by
        rw [inputs_iterate]; exact h.no_reset _ (by omega)
      obtain ⟨hidle, hok⟩ := nextState_of_success hr hfsm (hresn.trans (hresr.trans hres))
      rw [show n + 1 + 1 + r = n + 1 + r + 1 by omega, Function.iterate_succ_apply'] at hsafe ⊢
      exact showsTrace_done hsafe hidle hok (by omega) v

/-- Settles O59: the accepting tick, the PoweringUp tick, and the trace from the beginning of the wait on. -/
theorem successfulTransmissionTrace : Obligations.SuccessfulTransmissionTrace := by
  intro s s1 r hs hi h1 hup hr hrT hrst hwrite hbus hlow hhigh j hj hjn
  obtain rfl := eq_nextState_of_step h1
  refine ⟨_, run_eq_iterate j s, ?_⟩
  change ShowsTrace (waveform (nextState s).pkt) (nextState s).pwrV r j (nextState^[j] s)
  have hr0 : s.inputs.rst = false := by rw [← inputsAt_zero]; exact hrst 0 (by omega)
  have hin1 : (nextState s).inputs = inputsAt s 1 := inputs_iterate s 1
  have hr1 : (nextState s).inputs.rst = false := by rw [hin1]; exact hrst 1 (by omega)
  have hres1 := nextState_result_of_started hr0 hi hup
  rcases Nat.eq_or_lt_of_le hj with rfl | hj2
  · exact showsTrace_accepted (hs.iterate 1) hup hres1 _ r
  · obtain ⟨hf2, ht2, hres2⟩ := nextState_of_poweringUp hr1 hup fun hv => by rw [hin1]; exact hwrite hv
    have hpkt2 : (nextState^[2] s).pkt = (nextState s).pkt := nextState_pkt hr1 (by simp [hup])
    have hin2 : ReadyThenNoFailure (nextState^[2] s) r (waveform (nextState s).pkt).length := {
      pos := hr
      in_time := hrT
      no_reset := fun k hk => by rw [inputsAt_iterate]; exact hrst _ (by omega)
      low := fun k hk => by rw [inputsAt_iterate]; exact hlow k hk
      high := by rwa [inputsAt_iterate, show 2 + (r - 1) = 1 + r by omega]
      no_failure := fun k hk => by rw [inputsAt_iterate, ← Nat.add_assoc]; exact hbus k hk }
    obtain ⟨i, rfl⟩ := Nat.exists_eq_add_of_le hj2
    have htrace := showsTrace_of_awaitingReady (i := i) (hs.iterate 2) hf2 ht2 (hres2.trans hres1)
      (by rw [hpkt2]; exact hin2) (by rw [hpkt2]; omega) (nextState s).pwrV
    rw [hpkt2, ← Function.iterate_add_apply, Nat.add_comm i 2] at htrace
    exact htrace

end Sys2Proof.Safety

/-! PROOFS. The dispatch of a tick (43_backend.md R215): it is the step, for every configuration, and the step is total;
which word a step runs, what a tick without a word does, and that a rejected word sets `REJ` and nothing else (R216). -/

namespace Sys2Proof.Safety

open Sys2Proof.Machine

/-! ### The step as the dispatch -/

/-- The machine with any parameters makes the dispatch of one tick with them (00_scope.md R8). -/
theorem stepWith_eq_dispatchTick (c : Config) (s : State) : stepWith c s = advance (dispatchTick c s) := by
  unfold stepWith
  cases hr : s.inputs.rst with
  | true => rw [dispatchTick_reset hr]; rfl
  | false =>
    cases hf : fetch c s with
    | none => simp [wordlessTick_of_fetch_none hr hf]
    | some i => simp [wordTick_of_fetch hr hf]

/-- Settles O17: the word that is fetched, or its absence, does what the dispatch does, for every configuration. -/
theorem stepIsTheDispatch : Obligations.StepIsTheDispatch := ⟨step_eq_dispatchTick, stepWith_eq_dispatchTick⟩

/-- Settles O16: the next state is a function of the state. -/
theorem stepIsTotal : Obligations.StepIsTotal := fun s => ⟨nextState s, step_eq_nextState s⟩

/-- Settles O15: a command word, a packet and a symbol each make, as words, the tick of the dispatch. -/
theorem stepRunsDecodedInstruction : Obligations.StepRunsDecodedInstruction := by
  intro s t i hr h
  obtain rfl : wordTick cfg i s = t := Host.Outcome.next.inj ((exec_eq_wordTick i s).symm.trans h)
  have hstep (hw : wordTick cfg i s = dispatchTick cfg s) : step s = .next (advance (wordTick cfg i s)) := by
    rw [hw, step_eq_dispatchTick]
  refine ⟨fun hv hd => ?_, fun hv hf hd => ?_, fun hv hf y k hy hi => ?_⟩
  · exact hstep (wordTick_of_decodeCommand hr hv hd)
  · have hb : s.fsm ≠ .idle := by rcases hf with hf | hf | hf <;> simp [hf]
    exact hstep (by rw [wordTick_of_decodePacket hd, dispatchTick_busy hr hb hv])
  · exact hstep (by rw [← hi, wordTick_symbolInstr hf hy, dispatchTick_busy hr (by simp [hf]) hv])

/-! ### A tick without a word, and one with a rejected word -/

/-- With no word presented the tick is the step of `FSM`, which in Idle is none. -/
theorem dispatchTick_of_no_word {c : Config} {s : State} (hr : s.inputs.rst = false) (hv : s.inputs.cmdValid = false) :
    dispatchTick c s = fsmStep c s := by
  by_cases hi : s.fsm = .idle
  · simp [dispatchTick, hr, hv, hi, fsmStep_of_idle c hi]
  · exact dispatchTick_busy hr hi hv

/-- Settles O21: the tick is the step of `FSM`, and Idle has none. -/
theorem idleWithoutWordIsStill : Obligations.IdleWithoutWordIsStill := by
  intro s hr hv hi
  rw [step_eq_dispatchTick, dispatchTick_of_no_word hr hv, fsmStep_of_idle cfg hi]
  rfl

/-- The word of the coming tick is not served, for one of the four reasons of 43_backend.md R216. -/
def Unserved (s : State) : Prop :=
  s.fsm ≠ .idle ∨ s.closed = true ∨ decodeCommand s.inputs.cmd = .rejected .reservedOp ∨
    (s.backend = .unselected ∧ decodeCommand s.inputs.cmd ≠ .ok .select ∧ decodeCommand s.inputs.cmd ≠ .ok .close)

/-- A word that is not served: the step of `FSM`, as without it, and `REJ` set. -/
theorem dispatchTick_of_unserved {c : Config} {s : State} (hr : s.inputs.rst = false) (hv : s.inputs.cmdValid = true)
    (h : Unserved s) : dispatchTick c s = reject (fsmStep c s) := by
  by_cases hi : s.fsm = .idle
  · rw [fsmStep_of_idle c hi]
    unfold Unserved at h
    rcases dispatchTick_idle_rule c s hr hi with ⟨hn, _⟩ | ⟨_, ht⟩ | ⟨_, hc, hd, _⟩ | ⟨_, hc, hd, _⟩ |
      ⟨_, hc, hb, a, f, p, hd, _⟩ | ⟨_, hc, hb, a, f, l, p, hd, _⟩
    -- the second rule rejects; no other one applies
    on_goal 2 => exact ht
    all_goals simp_all
  · rw [dispatchTick_busy_word hr hi hv, fsmStep_reject]

/-- The inputs of a tick are gone when the tick is over. -/
@[simp] theorem advance_setInputs (x : Inputs) (s : State) : advance (setInputs x s) = advance s := rfl

/-- Of the inputs the step of `FSM` reads the ready line and the bus error only. -/
theorem fsmStep_setInputs (c : Config) {x : Inputs} {s : State} (hy : x.readyIn = s.inputs.readyIn)
    (he : x.busErr = s.inputs.busErr) : fsmStep c (setInputs x s) = setInputs x (fsmStep c s) := by
  have hy' : (setInputs x s).inputs.readyIn = s.inputs.readyIn := hy
  have he' : (setInputs x s).inputs.busErr = s.inputs.busErr := he
  cases hf : s.fsm with
  | idle => rw [fsmStep_of_idle c hf, fsmStep_of_idle c (s := setInputs x s) hf]
  | poweringUp =>
    rw [fsmStep_of_poweringUp c hf, fsmStep_of_poweringUp c (s := setInputs x s) hf]
    simp only [poweringUpStep, he', apply_ite (setInputs x)]
    rfl
  | awaitingReady =>
    rw [fsmStep_of_awaitingReady c hf, fsmStep_of_awaitingReady c (s := setInputs x s) hf]
    simp only [awaitingReadyStep, hy', apply_ite (setInputs x)]
    rfl
  | transmitting =>
    rw [fsmStep_of_transmitting c hf, fsmStep_of_transmitting c (s := setInputs x s) hf]
    simp only [emitTick, advancePulse, he', apply_ite (setInputs x)]
    rfl
  | poweringDown =>
    rw [fsmStep_of_poweringDown c hf, fsmStep_of_poweringDown c (s := setInputs x s) hf]
    simp only [returnToIdle, apply_ite (setInputs x)]
    rfl

/-- A word that is not served in place of no word: the same next state, and `REJ` set (43_backend.md R216). -/
theorem nextState_setInputs_of_unserved {x : Inputs} {s : State} (hr : s.inputs.rst = false)
    (hv : s.inputs.cmdValid = false) (hxr : x.rst = false) (hxv : x.cmdValid = true)
    (hy : x.readyIn = s.inputs.readyIn) (he : x.busErr = s.inputs.busErr) (hu : Unserved (setInputs x s)) :
    nextState (setInputs x s) = reject (nextState s) :=
  calc nextState (setInputs x s) = advance (reject (fsmStep cfg (setInputs x s))) :=
        congrArg advance (dispatchTick_of_unserved hxr hxv hu)
    _ = reject (advance (fsmStep cfg s)) := by rw [fsmStep_setInputs cfg hy he]; rfl
    _ = reject (nextState s) := by rw [nextState, dispatchTick_of_no_word hr hv]

/-- Settles O20: with and without the word the tick is the step of `FSM`, which does not read the word. -/
theorem rejectedWordOnlySetsRej : Obligations.RejectedWordOnlySetsRej := by
  intro s t x xs w hr hu h
  obtain rfl := eq_nextState_of_step h
  rw [step_eq_nextState]
  exact congrArg _ (nextState_setInputs_of_unserved (x := { x with cmdValid := true, cmd := w })
    (s := { s with env := { x with cmdValid := false } :: xs }) hr rfl hr rfl rfl rfl hu)

end Sys2Proof.Safety

/-! PROOFS. The command words of 43_backend.md: SELECT (R211), CLOSE (R214), a word that is not served (R216), and the
transmit words under the Dummy Backend (R218), which does no I/O (R217, R219). -/

namespace Sys2Proof.Machine

/-! ### SELECT, CLOSE and a word that is not served -/

theorem exec_select_of_idle {s : State} (hi : s.fsm = .idle) (hc : s.closed = false) :
    exec .select s = .next (selectBackend s) := by
  rw [Safety.exec_eq_wordTick, wordTick, selectTick, presented_of_idle _ _ hi hc]

theorem exec_close_of_idle {s : State} (hi : s.fsm = .idle) (hc : s.closed = false) :
    exec .close s = .next (releaseHandles s) := by
  rw [Safety.exec_eq_wordTick, wordTick, closeTick, presented_of_idle _ _ hi hc]

theorem probe_iff (s : State) :
    probe s = true ↔ s.inputs.probeBus = true ∧ s.inputs.probeIrq = true ∧ s.inputs.probeSdn = true := by
  simp [probe, and_assoc]

/-- Settles O22: a chosen backend, three probes of 1, or one of 0. -/
theorem selectResult : Obligations.SelectResult := by
  intro s hi hc
  rw [exec_select_of_idle hi hc]
  rcases selectBackend_cases s with ⟨hb, h⟩ | ⟨hb, hp, h⟩ | ⟨hb, hp, h⟩
  · rw [h, if_neg hb]
  · rw [h, if_pos hb, if_pos ((probe_iff s).1 hp)]; rfl
  · rw [h, if_pos hb, if_neg (by rw [← probe_iff, hp]; decide)]; rfl

/-- The instruction is one of the four operations of a command word; `decodeCommand_ok` says that each decoded word is. -/
def IsCommand (i : Instr) : Prop :=
  i = .select ∨ i = .close ∨ (∃ a f p, i = .txd a f p) ∨ (∃ a f l p, i = .txs a f l p)

/-- A command word is dispatched by the acceptance tests, and a transmit word rejects before SELECT
(43_backend.md R215). -/
theorem exec_eq_presented {i : Instr} (hi : IsCommand i) :
    ∃ accept : State → State, (∀ s, exec i s = .next (presented cfg accept s)) ∧
      (i ≠ .select → i ≠ .close → ∀ s, s.backend = .unselected → accept s = reject s) := by
  rcases hi with rfl | rfl | ⟨a, f, p, rfl⟩ | ⟨a, f, l, p, rfl⟩
  · exact ⟨selectBackend, fun _ => rfl, fun h => absurd rfl h⟩
  · exact ⟨releaseHandles, fun _ => rfl, fun _ h => absurd rfl h⟩
  · exact ⟨acceptTxd cfg a f p, fun _ => rfl, fun _ _ _ hb => if_pos hb⟩
  · exact ⟨acceptTxs cfg a f l p, fun _ => rfl, fun _ _ _ hb => if_pos hb⟩

/-- While busy a command word sets `REJ`, and the step of `FSM` goes on (43_backend.md R216). -/
theorem exec_of_busy {i : Instr} {s : State} (hcmd : IsCommand i) (hb : s.fsm ≠ .idle) :
    exec i s = .next (fsmStep cfg (reject s)) := by
  obtain ⟨accept, hexec, _⟩ := exec_eq_presented hcmd
  rw [hexec, presented, if_pos hb, rejected]

/-- In Idle while closed a command word sets `REJ` (43_backend.md R216). -/
theorem exec_of_closed {i : Instr} {s : State} (hcmd : IsCommand i) (hi : s.fsm = .idle) (hc : s.closed = true) :
    exec i s = .next (reject s) := by
  obtain ⟨accept, hexec, _⟩ := exec_eq_presented hcmd
  rw [hexec, presented, if_neg (not_not.2 hi), if_pos hc]

/-- A transmit word in Idle before SELECT sets `REJ`, closed or not (43_backend.md R216). -/
theorem exec_of_unselected {i : Instr} {s : State} (hcmd : IsCommand i) (hi : s.fsm = .idle)
    (hb : s.backend = .unselected) (hsel : i ≠ .select) (hclose : i ≠ .close) : exec i s = .next (reject s) := by
  obtain ⟨accept, hexec, hun⟩ := exec_eq_presented hcmd
  cases hc : s.closed with
  | true => exact exec_of_closed hcmd hi hc
  | false => rw [hexec, presented_of_idle _ _ hi hc, hun hsel hclose s hb]

/-- Settles O24: the three cases, one lemma each. -/
theorem unservedCommandResult : Obligations.UnservedCommandResult := fun _ _ hcmd =>
  ⟨exec_of_busy hcmd, exec_of_closed hcmd, exec_of_unselected hcmd⟩

/-- Settles O23: the handles are released, and in the state after it no word is served. -/
theorem closeResult : Obligations.CloseResult := by
  intro s
  refine ⟨exec_close_of_idle, exec_of_busy (.inr (.inl rfl)), fun hi hc t h => ?_⟩
  obtain rfl : releaseHandles s = t := Host.Outcome.next.inj ((exec_close_of_idle hi hc).symm.trans h)
  have hclosed (i : Instr) (hcmd : IsCommand i) : exec i (releaseHandles s) = .next (reject (releaseHandles s)) :=
    exec_of_closed hcmd hi rfl
  exact ⟨hclosed _ (.inl rfl), hclosed _ (.inr (.inl rfl)),
    fun _ _ _ => hclosed _ (.inr (.inr (.inl ⟨_, _, _, rfl⟩))),
    fun _ _ _ _ => hclosed _ (.inr (.inr (.inr ⟨_, _, _, _, rfl⟩)))⟩

/-! ### The transmit words under the Dummy Backend -/

/-- Under Dummy a valid operand set is complete at once, whatever the power level (43_backend.md R218). -/
theorem transmit_of_dummy (c : Config) (b : Bits) (m : Bool) (f : FanCommand) (l : LightCommand)
    (p : Option (BitVec 3)) {s : State} (hb : s.backend = .dummy) :
    transmit c b m f l p s = commitLast m f l (succeed s) := if_pos hb

/-- TXD under Dummy validates its operands and answers `Ok` (43_backend.md R218). -/
theorem acceptTxd_of_dummy (c : Config) (addr : BitVec 8) (fan power : Option (BitVec 3)) {s : State}
    (hb : s.backend = .dummy) :
    acceptTxd c addr fan power s = (validateTxd c addr fan).elim (raise .invalidCommand s) fun _ => succeed s := by
  rcases acceptTxd_cases c addr fan power s with ⟨hu, _⟩ | ⟨_, hv, h⟩ | ⟨a, f, _, hv, h⟩
  · rw [hb] at hu; cases hu
  · rw [h, hv]; rfl
  · rw [h, hv, transmit_of_dummy _ _ _ _ _ _ hb]; rfl

/-- TXS under Dummy resolves its operands, answers `Ok` and commits them (43_backend.md R218). -/
theorem acceptTxs_of_dummy (c : Config) (addr : BitVec 8) (fan : Option (BitVec 3)) (light : Option LightField)
    (power : Option (BitVec 3)) {s : State} (hb : s.backend = .dummy) :
    acceptTxs c addr fan light power s = (resolveTxs c addr fan light s.lastFan s.lastLight).elim
      (raise .invalidCommand s) fun v => commitLast true v.2.1 v.2.2 (succeed s) := by
  rcases acceptTxs_cases c addr fan light power s with ⟨hu, _⟩ | ⟨_, hv, h⟩ | ⟨a, f, l, _, hv, h⟩
  · rw [hb] at hu; cases hu
  · rw [h, hv]; rfl
  · rw [h, hv, transmit_of_dummy _ _ _ _ _ _ hb]; rfl

/-- Settles O27: a legal fan code names a fan, so the operands are valid. -/
theorem txdUnderDummy : Obligations.TxdUnderDummy := by
  intro addr f power s hi hc hb ha hf
  obtain ⟨fan, hfan⟩ := Option.isSome_iff_exists.1 ((isSome_fanOfField f).2 hf)
  rw [fanOfField_eq_fanNamed] at hfan
  rw [exec_txd_of_idle _ _ _ hi hc, acceptTxd_of_dummy _ _ _ _ hb, validateTxd_eq_some ha hfan]
  rfl

/-- Settles O30: the operands resolve to the values that are committed. -/
theorem txsUnderDummy : Obligations.TxsUnderDummy := by
  intro addr fan light power f l s hi hc hb ha hf hl
  rw [exec_txs_of_idle _ _ _ _ hi hc, acceptTxs_of_dummy _ _ _ _ _ hb, resolveTxs_eq_some ha hf hl]
  rfl

end Sys2Proof.Machine

namespace Sys2Proof.Safety

open Sys2Proof.Machine

/-! ### The Dummy Backend does no I/O -/

/-- Under Dummy a tick in Idle reads the reset and the command ports only (43_backend.md R217). -/
theorem dispatchTick_setInputs_of_dummy (c : Config) {x : Inputs} {s : State} (hi : s.fsm = .idle)
    (hb : s.backend = .dummy) (hr : x.rst = s.inputs.rst) (hv : x.cmdValid = s.inputs.cmdValid)
    (hw : x.cmd = s.inputs.cmd) : dispatchTick c (setInputs x s) = setInputs x (dispatchTick c s) := by
  have hin : (setInputs x s).inputs = x := rfl
  have hi' : (setInputs x s).fsm = .idle := hi
  have hb' : (setInputs x s).backend = .dummy := hb
  have hc' : (setInputs x s).closed = s.closed := rfl
  simp only [dispatchTick, hin, hi, hi', hc', hr, hv, hw]
  cases s.inputs.rst with
  | true => rfl
  | false =>
    cases s.inputs.cmdValid with
    | false => rfl
    | true =>
      cases s.closed with
      | true => rfl
      | false =>
        cases decodeCommand s.inputs.cmd with
        | rejected e => rfl
        | ok i =>
          cases i with
          | select => simp [selectBackend, hb]
          | txd addr fan power =>
            simp only [acceptTxd_of_dummy c _ _ _ hb, acceptTxd_of_dummy c _ _ _ hb']
            cases validateTxd c addr fan <;> rfl
          | txs addr fan light power =>
            have hlast : resolveTxs c addr fan light (setInputs x s).lastFan (setInputs x s).lastLight =
                resolveTxs c addr fan light s.lastFan s.lastLight := rfl
            simp only [acceptTxs_of_dummy c _ _ _ _ hb, acceptTxs_of_dummy c _ _ _ _ hb', hlast]
            cases resolveTxs c addr fan light s.lastFan s.lastLight <;> rfl
          | close | pktDumb | pktSmart | sync | sym0 | sym1 => rfl

/-- A state without `CLAIM` drives no pin (43_backend.md R219). -/
theorem drive_of_not_claim {α : Type} {s : State} (h : s.claim = false) (x : α) : drive s x = .released := by
  simp [drive, h]

/-- Settles O52: a state with the invariants is quiet under Dummy, which a tick without reset does not leave. -/
theorem dummyBackendDoesNoIO : Obligations.DummyBackendDoesNoIO := by
  intro s t x xs hs hb henv hrst h
  have hin : s.inputs = x := by simp [State.inputs, henv]
  have hr : s.inputs.rst = false := by rwa [hin]
  have ht := hs.step h
  obtain rfl := eq_of_step h
  obtain ⟨hi, _⟩ := hs.not_hardware_quiet (by simp [hb])
  have hbt : (dispatchTick cfg s).backend = .dummy := by rw [(dispatchTick_flagsKept cfg hr).backend (by simp [hb]), hb]
  obtain ⟨hit, _, _, hclaim⟩ := ht.not_hardware_quiet (by simp [hbt])
  obtain ⟨hen, htx⟩ := dispatchTick_lines_of_idle cfg hr hi
  refine ⟨hen, htx, hit, by simp [busWrite, hi], drive_of_not_claim hclaim _, drive_of_not_claim hclaim _,
    drive_of_not_claim hclaim _, fun ready err => ?_⟩
  have hset : ({ s with env := { x with readyIn := ready, busErr := err } :: xs } : State) =
      setInputs { x with readyIn := ready, busErr := err } s := by simp [setInputs, henv]
  rw [hset, step_eq_dispatchTick, dispatchTick_setInputs_of_dummy cfg hi hb (by rw [hin]) (by rw [hin]) (by rw [hin]),
    advance_setInputs]

end Sys2Proof.Safety

/-! PROOFS. Every busy run reaches Idle within a bounded number of ticks (43_backend.md R220): the bound of each busy
state, from the last one back to the first. -/

namespace Sys2Proof.Safety

open Sys2Proof.Machine

/-- Unless a reset comes, Idle is reached within `n` ticks. -/
def ReturnsWithin (n : Nat) (s : State) : Prop :=
  (∀ k, k < n → (inputsAt s k).rst = false) → ∃ k, k ≤ n ∧ (nextState^[k] s).fsm = .idle

theorem ReturnsWithin.mono {m n : Nat} {s : State} (h : ReturnsWithin m s) (hmn : m ≤ n) : ReturnsWithin n s := by
  intro hin
  obtain ⟨k, hk, hidle⟩ := h fun k hk => hin k (by omega)
  exact ⟨k, by omega, hidle⟩

/-- One tick without reset, and then the bound of the next state. -/
theorem returnsWithin_succ {n : Nat} {s : State} (h : s.inputs.rst = false → ReturnsWithin n (nextState s)) :
    ReturnsWithin (n + 1) s := by
  intro hin
  obtain ⟨k, hk, hidle⟩ := h (by rw [← inputsAt_zero]; exact hin 0 (by omega))
    fun k hk => by rw [inputsAt_nextState]; exact hin (k + 1) (by omega)
  exact ⟨k + 1, by omega, by rwa [Function.iterate_succ_apply]⟩

theorem returnsWithin_of_idle {s : State} (hf : s.fsm = .idle) (n : Nat) : ReturnsWithin n s :=
  fun _ => ⟨0, Nat.zero_le n, hf⟩

/-- PoweringDown takes one tick (42_handshake.md R180). -/
theorem returnsWithin_of_poweringDown {s : State} (hf : s.fsm = .poweringDown) (n : Nat) : ReturnsWithin (n + 1) s :=
  returnsWithin_succ fun hr => by
    obtain ⟨b, h⟩ := nextState_of_busy hr (by simp [hf])
    exact returnsWithin_of_idle (by rw [h]; exact (fsmStep_lines_of_poweringDown cfg hf).1) n

/-- The burst takes a tick for each level left, or fails sooner (42_handshake.md R178, R179). -/
theorem BurstLeft.returnsWithin {s : State} {w : List Bool} (h : BurstLeft s w) : ReturnsWithin (w.length + 1) s := by
  induction w generalizing s with
  | nil => exact absurd rfl h.ne_nil
  | cons v w ih =>
    refine returnsWithin_succ fun hr => ?_
    cases he : s.inputs.busErr with
    | true =>
      obtain ⟨b, ht⟩ := nextState_of_burst_failure hr h.fsm he
      exact returnsWithin_of_poweringDown (by simp [ht]) _
    | false =>
      obtain ⟨_, _, ⟨_, hf⟩ | ⟨_, hleft⟩⟩ := h.tick hr he
      · exact returnsWithin_of_poweringDown hf _
      · exact ih hleft

/-- A tick of the wait: the burst begins, the bound is reached, or one more low sample is counted
(42_handshake.md R176). -/
theorem nextState_awaitingReady_cases {s : State} (hr : s.inputs.rst = false) (hf : s.fsm = .awaitingReady) :
    BurstLeft (nextState s) (waveform s.pkt) ∨ (nextState s).fsm = .poweringDown ∨
    (s.timer + 1 < cfg.readyTimeout ∧ (nextState s).fsm = .awaitingReady ∧ (nextState s).timer = s.timer + 1) := by
  rcases awaitingReadyStep_cases cfg s with ⟨hy, _⟩ | ⟨_, _, h⟩ | ⟨hy, ht, _⟩
  · obtain ⟨hf', hp, hd, _⟩ := nextState_of_ready hr hf hy
    have hpkt := nextState_pkt hr (by simp [hf])
    exact .inl (hpkt ▸ burstLeft_waveform hf' hp (by rw [hd, hpkt]))
  · obtain ⟨b, hn⟩ := nextState_of_busy hr (by simp [hf])
    rw [fsmStep_of_awaitingReady cfg hf, h] at hn
    exact .inr (.inl (by simp [hn]))
  · obtain ⟨hf', ht', _⟩ := nextState_of_low hr hf hy ht
    exact .inr (.inr ⟨ht, hf', ht'⟩)

/-- The wait takes the samples that are missing to the bound, and the burst may follow (42_handshake.md R176, R177). -/
theorem returnsWithin_of_awaitingReady {s : State} {n : Nat} (hf : s.fsm = .awaitingReady)
    (hn : cfg.readyTimeout ≤ s.timer + n + 1) : ReturnsWithin ((waveform s.pkt).length + 1 + n + 1) s := by
  induction n using Nat.strong_induction_on generalizing s with
  | h n ih =>
    refine returnsWithin_succ fun hr => ?_
    rcases nextState_awaitingReady_cases hr hf with hburst | hdown | ⟨hlt, hwait, ht⟩
    · exact hburst.returnsWithin.mono (by omega)
    · exact (returnsWithin_of_poweringDown hdown 0).mono (by omega)
    · obtain ⟨m, rfl⟩ := Nat.exists_eq_add_of_le' (show 1 ≤ n by omega)
      rw [← nextState_pkt hr (by simp [hf])]
      exact ih m (by omega) hwait (by omega)

/-- PoweringUp takes one tick, and the whole wait may follow (42_handshake.md R175). -/
theorem returnsWithin_of_poweringUp {s : State} (hf : s.fsm = .poweringUp) :
    ReturnsWithin ((waveform s.pkt).length + cfg.readyTimeout + 2) s := by
  have hbound := one_le_cfg_readyTimeout
  refine returnsWithin_succ fun hr => ?_
  obtain ⟨b, hn⟩ := nextState_of_busy hr (by simp [hf])
  obtain ⟨hwait | hdown, _⟩ := fsmStep_lines_of_poweringUp cfg hf
  · rw [← nextState_pkt hr (by simp [hf])]
    exact (returnsWithin_of_awaitingReady (n := cfg.readyTimeout - 1) (by rw [hn]; exact hwait) (by omega)).mono
      (by omega)
  · exact returnsWithin_of_poweringDown (by rw [hn]; exact hdown) _

theorem length_expand_drop_le (ps : List Pulse) (k : Nat) : (expand (ps.drop k)).length ≤ (expand ps).length := by
  have happend : expand ps = expand (ps.take k) ++ expand (ps.drop k) := by
    rw [expand, expand, expand, ← List.flatMap_append, List.take_append_drop]
  simp [happend]

/-- On a pulse of the packet no more levels are left than the waveform has. -/
theorem OnPulse.exists_burstLeft {s : State} (h : OnPulse cfg s) (hf : s.fsm = .transmitting) :
    ∃ w, BurstLeft s w ∧ w.length ≤ (waveform s.pkt).length := by
  obtain ⟨hp, hd, hle⟩ := h
  have hget := List.getElem?_eq_getElem hp
  have hrest := length_expand_drop_le (modulate cfg s.pkt) s.pidx
  rw [List.drop_eq_getElem_cons hp, expand_cons, List.length_append, List.length_replicate,
    ← pulseDuration_of_getElem? hget] at hrest
  refine ⟨_, ⟨hf, hd, _, hget, rfl⟩, ?_⟩
  rw [List.length_append, List.length_replicate]
  exact le_trans (Nat.add_le_add_right hle _) hrest

/-- Settles O60: the bound of each state is at most that of the statement. -/
theorem busyRunReachesIdle : Obligations.BusyRunReachesIdle := by
  intro s hs hin
  have hreturn : ReturnsWithin (3 + cfg.readyTimeout + (waveform s.pkt).length) s := by
    cases hf : s.fsm with
    | idle => exact returnsWithin_of_idle hf _
    | poweringUp => exact (returnsWithin_of_poweringUp hf).mono (by omega)
    | awaitingReady =>
      exact (returnsWithin_of_awaitingReady (n := cfg.readyTimeout) hf (by omega)).mono (by omega)
    | transmitting =>
      obtain ⟨w, hburst, hw⟩ := OnPulse.exists_burstLeft (hs.position hf) hf
      exact hburst.returnsWithin.mono (by omega)
    | poweringDown => exact (returnsWithin_of_poweringDown hf 0).mono (by omega)
  obtain ⟨k, hk, hidle⟩ := hreturn hin
  exact ⟨k, _, hk, run_eq_iterate k s, hidle⟩

end Sys2Proof.Safety

/-! PROOFS. Errors and modes (60_exceptions.md): the ready timeout from the first low sample to Idle (R233), and how the
modes are entered and left (R245). -/

namespace Sys2Proof.Safety

open Sys2Proof.Machine

/-! ### The ready timeout -/

/-- A busy tick that is not the return of a transmission still open keeps the last-known values (42_handshake.md R180). -/
theorem nextState_last_of_busy {s : State} (hr : s.inputs.rst = false) (hi : s.fsm ≠ .idle)
    (h : s.fsm = .poweringDown → s.result ≠ .none) :
    (nextState s).lastFan = s.lastFan ∧ (nextState s).lastLight = s.lastLight := by
  obtain ⟨b, hn⟩ := nextState_of_busy hr hi
  rw [hn]
  rcases fsmStep_last_cases cfg s with hkept | ⟨hf, hres, _⟩
  · exact hkept
  · exact absurd hres (h hf)

/-- The wait keeps the last-known values, also at the sample that reaches the bound. -/
theorem iterate_last_of_low {s : State} {n : Nat} (hf : s.fsm = .awaitingReady) (ht : s.timer + n ≤ cfg.readyTimeout)
    (hin : ∀ k, k < n → (inputsAt s k).rst = false ∧ (inputsAt s k).readyIn = false) :
    (nextState^[n] s).lastFan = s.lastFan ∧ (nextState^[n] s).lastLight = s.lastLight := by
  induction n with
  | zero => exact ⟨rfl, rfl⟩
  | succ n ih =>
    have hin' := fun k (hk : k < n) => hin k (by omega)
    obtain ⟨hfan, hlight⟩ := ih (by omega) hin'
    obtain ⟨hf', _⟩ := iterate_of_low hf (by omega) hin'
    obtain ⟨hr, _⟩ := hin n (by omega)
    rw [← inputs_iterate] at hr
    obtain ⟨hfan', hlight'⟩ := nextState_last_of_busy hr (by simp [hf']) (by simp [hf'])
    rw [Function.iterate_succ_apply']
    exact ⟨hfan'.trans hfan, hlight'.trans hlight⟩

/-- The low sample that reaches the bound raises `HardwareTimeout` (42_handshake.md R176; 60_exceptions.md R233). -/
theorem nextState_of_timeout {s : State} (hr : s.inputs.rst = false) (hf : s.fsm = .awaitingReady)
    (hy : s.inputs.readyIn = false) (ht : cfg.readyTimeout ≤ s.timer + 1) :
    (nextState s).fsm = .poweringDown ∧ (nextState s).result = .hardwareTimeout ∧ (nextState s).tx = s.tx := by
  obtain ⟨b, h⟩ := nextState_of_busy hr (by simp [hf])
  rw [h, fsmStep_of_awaitingReady cfg hf]
  rcases awaitingReadyStep_cases cfg s with ⟨hy', _⟩ | ⟨_, _, h⟩ | ⟨_, hlt, _⟩
  · rw [hy] at hy'; cases hy'
  · simp [h]
  · omega

/-- Low samples up to the bound: the last of them raises the error, and `TX` has not moved. -/
theorem iterate_of_timeout {s : State} {n : Nat} (hf : s.fsm = .awaitingReady)
    (ht : s.timer + (n + 1) = cfg.readyTimeout)
    (hin : ∀ k, k < n + 1 → (inputsAt s k).rst = false ∧ (inputsAt s k).readyIn = false) :
    (nextState^[n + 1] s).fsm = .poweringDown ∧ (nextState^[n + 1] s).result = .hardwareTimeout ∧
      (nextState^[n + 1] s).tx = s.tx := by
  obtain ⟨hfn, htn, htxn, _⟩ := iterate_of_low (n := n) hf (by omega) fun k hk => hin k (by omega)
  obtain ⟨hr, hy⟩ := hin n (by omega)
  rw [← inputs_iterate] at hr hy
  obtain ⟨hdown, herr, htx⟩ := nextState_of_timeout hr hfn hy (by omega)
  rw [Function.iterate_succ_apply']
  exact ⟨hdown, herr, htx.trans htxn⟩

/-- After an error the return keeps the error and the last-known values (42_handshake.md R180; 60_exceptions.md R243). -/
theorem nextState_of_failure {s : State} (hr : s.inputs.rst = false) (hf : s.fsm = .poweringDown)
    (he : s.result ≠ .none) :
    (nextState s).fsm = .idle ∧ (nextState s).result = s.result ∧ (nextState s).lastFan = s.lastFan ∧
      (nextState s).lastLight = s.lastLight := by
  obtain ⟨b, h⟩ := nextState_of_poweringDown hr hf
  rw [h, returnToIdle_of_error he]
  simp

/-- Settles O58: the samples before the bound are counted, the last one raises the error, and the next tick is the return
after an error; the lines are those of a safe state. -/
theorem readyTimeoutRun : Obligations.ReadyTimeoutRun := by
  intro s hs hf ht hres hin hrT
  have htx : s.tx = false := by simpa [hf] using hs.tx_only
  obtain ⟨m, hm⟩ := Nat.exists_eq_add_of_le' one_le_cfg_readyTimeout
  obtain ⟨hdown, herr, htxT⟩ := iterate_of_timeout (n := m) hf (by omega) (by rwa [← hm])
  rw [← hm] at hdown herr htxT
  obtain ⟨hfanT, hlightT⟩ := iterate_last_of_low hf (by omega) hin
  rw [← inputs_iterate] at hrT
  obtain ⟨hidle, hkept, hfan, hlight⟩ := nextState_of_failure hrT hdown (by simp [herr])
  rw [← Function.iterate_succ_apply' nextState] at hidle hkept hfan hlight
  obtain ⟨hen, htxI⟩ := (hs.iterate (cfg.readyTimeout + 1)).idle_safe hidle
  refine ⟨fun k hk => ⟨_, run_eq_iterate k s, ?_⟩, ⟨_, run_eq_iterate _ s, hdown, herr, htxT.trans htx⟩,
    ⟨_, run_eq_iterate _ s, hidle, hkept.trans herr, hen, htxI, hfan.trans hfanT, hlight.trans hlightT⟩⟩
  obtain ⟨hfk, htk, htxk, hresk, _⟩ := iterate_of_low (n := k) hf (by omega) fun j hj => hin j (by omega)
  exact ⟨hfk, by omega, htxk.trans htx, (hs.iterate k).en_iff.2 (.inl hfk), hresk.trans hres⟩

/-! ### The modes -/

/-- The mode is a function of `BACKEND` and `CLOSED`. -/
theorem mode_congr {s t : State} (hb : t.backend = s.backend) (hc : t.closed = s.closed) : mode t = mode s := by
  rw [mode, mode, hb, hc]

theorem mode_of_unselected {s : State} (hc : s.closed = false) (hb : s.backend = .unselected) :
    mode s = .unselected := by simp [mode, hc, hb]

theorem mode_of_hardware {s : State} (hc : s.closed = false) (hb : s.backend = .hardware) :
    mode s = .hardware := by simp [mode, hc, hb]

theorem mode_of_dummy {s : State} (hc : s.closed = false) (hb : s.backend = .dummy) :
    mode s = .dummy := by simp [mode, hc, hb]

theorem mode_eq_closed_iff (s : State) : mode s = .closed ↔ s.closed = true := by
  unfold mode
  cases s.closed <;> cases s.backend <;> simp

/-- The modes a tick in Idle can change, and how (60_exceptions.md R245): by SELECT's probe or by a CLOSE. -/
theorem dispatchTick_idle_mode_cases (c : Config) {s : State} (hr : s.inputs.rst = false) (hi : s.fsm = .idle) :
    mode (dispatchTick c s) = mode s ∨
    (s.inputs.cmdValid = true ∧ decodeCommand s.inputs.cmd = .ok .select ∧ mode s = .unselected ∧
      mode (dispatchTick c s) = if probe s = true then .hardware else .dummy) ∨
    (s.inputs.cmdValid = true ∧ decodeCommand s.inputs.cmd = .ok .close ∧ mode s ≠ .closed ∧
      mode (dispatchTick c s) = .closed) := by
  rcases dispatchTick_idle_cases c s hr hi with h | ⟨_, h⟩ | ⟨hv, hc, hd, hb, hp, h⟩ | ⟨hv, hc, hd, hb, hp, h⟩ |
    ⟨hv, hc, hd, h⟩ | ⟨_, _, _, h⟩ | ⟨_, _, _, _, f, l, h⟩ | ⟨_, _, _, _, f, l, _, h⟩ | ⟨_, _, _, _, a, f, p, _, h⟩ |
    ⟨_, _, _, _, a, f, l, p, _, h⟩ <;> rw [h]
  -- the third and the fourth case are SELECT's, the fifth is CLOSE's; the others write neither `BACKEND` nor `CLOSED`
  on_goal 3 => exact .inr (.inl ⟨hv, hd, mode_of_unselected hc hb, by
    rw [if_pos hp]; exact mode_of_hardware hc rfl⟩)
  on_goal 3 => exact .inr (.inl ⟨hv, hd, mode_of_unselected hc hb, by
    rw [if_neg (by simp [hp])]; exact mode_of_dummy hc rfl⟩)
  on_goal 3 => exact .inr (.inr ⟨hv, hd, by simp [mode_eq_closed_iff, hc], (mode_eq_closed_iff _).2 rfl⟩)
  all_goals exact .inl (mode_congr rfl rfl)

/-- A busy tick keeps the mode. -/
theorem mode_dispatchTick_of_busy (c : Config) {s : State} (hr : s.inputs.rst = false) (hi : s.fsm ≠ .idle) :
    mode (dispatchTick c s) = mode s := by
  obtain ⟨b, h, _⟩ := dispatchTick_busy_cases c s hr hi
  obtain ⟨hb, _, _, hc, _⟩ := fsmStep_keeps c s
  rw [h]
  exact mode_congr hb hc

/-- Settles O53: a busy tick keeps the mode, and in Idle only SELECT's probe and CLOSE change it. -/
theorem modeChanges : Obligations.ModeChanges := by
  intro s t hr h hne
  obtain rfl := eq_of_step h
  have hadv : mode (advance (dispatchTick cfg s)) = mode (dispatchTick cfg s) := mode_congr rfl rfl
  rw [hadv] at hne ⊢
  by_cases hi : s.fsm = .idle
  · rcases dispatchTick_idle_mode_cases cfg hr hi with hkept | ⟨hv, hd, hu, hm⟩ | ⟨hv, hd, ho, hm⟩
    · exact absurd hkept hne
    · simp only [probe_iff] at hm
      exact ⟨hv, hi, .inl ⟨hd, hu, hm⟩⟩
    · exact ⟨hv, hi, .inr ⟨hd, ho, hm⟩⟩
  · exact absurd (mode_dispatchTick_of_busy cfg hr hi) hne

end Sys2Proof.Safety

/-! PROOFS. Reset and the conditions on a configuration: a tick with `rst` 1 gives the registers of the reset state
(70_reset_and_hazards.md R270, R271), and the instance is a configuration the rules are stated for (R287). -/

namespace Sys2Proof.Machine

open Sys2Proof.Safety

/-! ### The reset tick -/

/-- A tick with `rst` 1 resets the registers, whatever the state and the other inputs are. -/
theorem step_of_rst {s : State} (hr : s.inputs.rst = true) : step s = .next (advance (resetRegisters cfg s)) := by
  rw [step_eq_dispatchTick, dispatchTick_reset hr]

/-- Code 0x00, which R44 gives `LAST_LIGHT`, is the code of level 0 only. -/
theorem eq_level_zero_of_light8 {l : LightCommand} (h : light8 l = 0x00) : l = .level 0 :=
  light8_injective (h.trans rfl)

/-- Settles O18: the tick resets the registers, and the reset state holds the values of R44. -/
theorem resetWins : Obligations.ResetWins := by
  intro s hr
  obtain ⟨hfsm, hbackend, hclosed, hclaim, hen, htx, hresult, hwarn, hrej, hfan, hlight, -⟩ := resetValues
  exact ⟨_, step_of_rst hr, hfsm, hbackend, hclosed, hclaim, hen, htx, hresult, hwarn, hrej, hfan,
    eq_level_zero_of_light8 hlight⟩

/-! ### The instance's configuration, check by check -/

theorem durationsPositive_cfg : cfg.durationsPositive = true := by simp [Config.durationsPositive]

theorem symbolsDistinct_cfg : cfg.symbolsDistinct = true := by simp [Config.symbolsDistinct]

/-- The opaque part of `READY_TIMEOUT` is the bound less 1, so any value of it will do. -/
theorem timeoutPositive_cfg : cfg.timeoutPositive = true := decide_eq_true one_le_cfg_readyTimeout

theorem sourceValues_cfg : cfg.sourceValues = true := by simp [Config.sourceValues]

theorem fansFit_cfg : cfg.fansFit = true := by simp [Config.fansFit]

theorem lightFits_cfg : cfg.lightFits = true := by simp [Config.lightFits]

theorem lengthsFit_cfg : cfg.lengthsFit = true := by simp [Config.lengthsFit]

theorem preamblesDiffer_cfg : cfg.preamblesDiffer = true := by simp [Config.preamblesDiffer]

/-- The default `LIGHT_QUANT` is the identity (40_codec.md R125). -/
theorem quantizerFits_cfg : cfg.quantizerFits = true := by simp [Config.quantizerFits]

theorem powerMaxFits_cfg : cfg.powerMaxFits = true := by simp [Config.powerMaxFits]

/-- Settles O11: the checks one by one; of the open parameters only `READY_TIMEOUT` is checked. -/
theorem configurationConforms : Obligations.ConfigurationConforms := by
  simp only [Obligations.ConfigurationConforms, Config.conforming, durationsPositive_cfg, symbolsDistinct_cfg,
    timeoutPositive_cfg, sourceValues_cfg, fansFit_cfg, lightFits_cfg, lengthsFit_cfg, preamblesDiffer_cfg,
    quantizerFits_cfg, powerMaxFits_cfg, Bool.and_self]

end Sys2Proof.Machine

/-! PROOFS. Decoding undoes encoding: the command word (30_encoding.md R80, R88, R95), the packets (R90, R91; 40_codec.md
R134) and the symbols (R92); then the spec's own words (95_test_vectors.md) and its assembly lines (R95, R96). -/

namespace Sys2Proof

open Sys2Proof.Machine

/-! ### The command word -/

/-- The fields read back from the word they were laid out in. -/
theorem commandFields_commandWord (f : CommandFields) : commandFields (commandWord f) = f := by
  obtain ⟨op, addr, fv, fan, lv, lm, lval, pv, pwr⟩ := f
  have hbit (x : BitVec 32) (k : Nat) : x.getLsbD k = (x.extractLsb' k 1).getLsbD 0 := by simp
  simp only [commandFields, commandWord, hbit]
  simp (disch := decide) only [BitVec.extractLsb'_append_eq_of_le, BitVec.extractLsb'_append_eq_of_add_le,
      BitVec.extractLsb'_eq_self, Nat.reduceSub]
  simp

/-- An operand under its valid bit is read back, present or absent (30_encoding.md R88). -/
theorem underValid_isSome_getD {α : Type} (x : Option α) (d : α) : underValid x.isSome (x.getD d) = x := by
  cases x <;> rfl

/-- A bit sequence of 32 bits is decoded as the command word it spells. -/
theorem decode_wordBits (w : CommandWord) : decode (wordBits w) = decodeCommand w := by
  simp [decode]

theorem decode_wordBits_encodeCommand (op : BitVec 4) (addr : BitVec 8) (fan : Option (BitVec 3))
    (light : Option LightField) (power : Option (BitVec 3)) :
    decode (wordBits (encodeCommand op addr fan light power)) =
      decodeFields ⟨op, addr, fan.isSome, fan.getD 0, light.isSome, (light.getD ⟨false, 0⟩).lm,
        (light.getD ⟨false, 0⟩).lval, power.isSome, power.getD 0⟩ := by
  rw [decode_wordBits, decodeCommand, encodeCommand, commandFields_commandWord]

theorem decode_encode_txd (addr : BitVec 8) (fan power : Option (BitVec 3)) :
    decode (encode (.txd addr fan power)) = .ok (.txd addr fan power) := by
  rw [encode, decode_wordBits_encodeCommand]
  simp [decodeFields, underValid_isSome_getD]

theorem decode_encode_txs (addr : BitVec 8) (fan : Option (BitVec 3)) (light : Option LightField)
    (power : Option (BitVec 3)) : decode (encode (.txs addr fan light power)) = .ok (.txs addr fan light power) := by
  have hlight : underValid light.isSome ⟨(light.getD ⟨false, 0⟩).lm, (light.getD ⟨false, 0⟩).lval⟩ = light :=
    underValid_isSome_getD light ⟨false, 0⟩
  rw [encode, decode_wordBits_encodeCommand]
  simpa [decodeFields, underValid_isSome_getD] using hlight

/-! ### The packets -/

theorem decode_encodeDumb (a : BitVec 4) {f : FanCommand} (hf : f ∈ cfg.fanSet) :
    decode (encodeDumb cfg a f) = .ok (.pktDumb a f) := by
  have hpre : cfg.preDumb <+: encodeDumb cfg a f := by simp only [encodeDumb, List.append_assoc, List.prefix_append]
  simpa [decode, decodePacket, encodeDumb_length, decodeDumb_encodeDumb a hf] using hpre

theorem decode_encodeSmart (a : BitVec 4) {f : FanCommand} (l : LightCommand) (hf : f ∈ cfg.fanSet) :
    decode (encodeSmart cfg a f l) = .ok (.pktSmart a f l) := by
  have hpre : cfg.preSmart <+: encodeSmart cfg a f l := by simp only [encodeSmart, List.append_assoc, List.prefix_append]
  simpa [decode, decodePacket, encodeSmart_length, decodeSmart_encodeSmart a l hf] using hpre

/-! ### The symbols -/

theorem decode_symbolLevels (y : Symbol) : decode (symbolLevels cfg y) = .ok (symbolInstr y) := by
  cases y <;> decide

/-! ### The obligations -/

/-- Settles O1: each kind of word by its own lemma; only a packet's fan needs the well-formedness. -/
theorem decodeEncodeRoundTrip : Obligations.DecodeEncodeRoundTrip := by
  intro i hwf
  cases i with
  | select => exact decode_wordBits_encodeCommand 1 0 none none none
  | txd addr fan power => exact decode_encode_txd addr fan power
  | txs addr fan light power => exact decode_encode_txs addr fan light power
  | close => exact decode_wordBits_encodeCommand 4 0 none none none
  | pktDumb addr fan => exact decode_encodeDumb addr (of_decide_eq_true hwf)
  | pktSmart addr fan light => exact decode_encodeSmart addr light (of_decide_eq_true hwf)
  | sync => exact decode_symbolLevels .sync
  | sym0 => exact decode_symbolLevels .sym0
  | sym1 => exact decode_symbolLevels .sym1

/-- Bits that an encoder gives decode to what it encodes. -/
theorem decode_eq_ok_of_encode {b : Bits} {i : Instr} (hwf : i.wf = true) (hb : encode i = b) : decode b = .ok i :=
  hb ▸ decodeEncodeRoundTrip i hwf

/-- Settles O2: the command words by their fields; the packets and the symbols are what the encoders give. -/
theorem writtenWordsDecode : Obligations.WrittenWordsDecode := by
  refine ⟨?select, ?close, ?txd, ?txs, ?reserved, ?dumb, ?smart, ?sync, ?sym0, ?sym1⟩
  case select | close | txd | txs | reserved => decide
  case dumb | smart | sync | sym0 | sym1 => exact decode_eq_ok_of_encode rfl rfl

/-- Settles O5: the lines of the examples one by one; the command lines are made of three of them. -/
theorem assemblyExamples : Obligations.AssemblyExamples := by
  have hselect : assembleWord .select = some 0x10000000 := by decide
  have hclose : assembleWord .close = some 0x40000000 := by decide
  have htxd : assembleWord (.txd 9 (.named .low) (some 2)) = some 0x20990050 := by decide
  have htxs : assembleWord (.txs 14 (.named .medium) (.percent 75) none) = some 0x30EAA580 := by decide
  refine ⟨htxs, by decide, ?_, ?_⟩
  · simp [cliDumb, hselect, htxd, hclose]
  · simp [cliSmart, hselect, htxs, hclose]

end Sys2Proof

/-! PROOFS. The invariants and the ranges of the transmission registers after reset (10_state.md R44) and after every step
(10_state.md R43, R23 to R30; 42_handshake.md section 3). -/

namespace Sys2Proof.Safety

open Sys2Proof.Machine

/-- Settles O45: the step is the dispatch of a tick, which keeps the invariants. -/
theorem stepKeepsSafeState : Obligations.StepKeepsSafeState := fun _ _ hs h => hs.step h

/-! ### The ranges, state by state -/

/-- Whether `PKT` holds the packet of the pending values depends on four registers only. -/
theorem PacketPending.congr {s t : State} (hs : PacketPending s) (hpkt : t.pkt = s.pkt := by rfl)
    (hsmart : t.pendSmart = s.pendSmart := by rfl) (hfan : t.pendFan = s.pendFan := by rfl)
    (hlight : t.pendLight = s.pendLight := by rfl) : PacketPending t := by
  unfold PacketPending
  rw [hpkt, hsmart, hfan, hlight]
  exact hs

theorem packetPending_dumb (a : BitVec 4) (f : FanCommand) (l : LightCommand) (p : Option (BitVec 3)) (s : State) :
    PacketPending (beginTransmission (encodeDumb cfg a f) false f l p s) := ⟨a, rfl⟩

theorem packetPending_smart (a : BitVec 4) (f : FanCommand) (l : LightCommand) (p : Option (BitVec 3)) (s : State) :
    PacketPending (beginTransmission (encodeSmart cfg a f l) true f l p s) := ⟨a, rfl⟩

/-- The ranges say nothing of Idle. -/
theorem inFlight_of_idle {s : State} (hf : s.fsm = .idle) : InFlight s := by
  constructor <;> simp [hf]

theorem inFlight_of_poweringUp {s : State} (hf : s.fsm = .poweringUp) (hp : PacketPending s) (hn : s.result = .none) :
    InFlight s := by
  constructor <;> simp [hf, hp, hn]

theorem inFlight_of_awaitingReady {s : State} (hf : s.fsm = .awaitingReady) (hp : PacketPending s)
    (ht : s.timer < cfg.readyTimeout) (hn : s.result = .none) : InFlight s := by
  constructor <;> simp [hf, hp, ht, hn]

theorem inFlight_of_transmitting {s : State} (hf : s.fsm = .transmitting) (hp : PacketPending s) (ho : OnPulse cfg s)
    (hn : s.result = .none) : InFlight s := by
  constructor <;> simp [hf, hp, ho, hn]

theorem inFlight_of_poweringDown {s : State} (hf : s.fsm = .poweringDown) (hp : PacketPending s)
    (hl : s.result = .none ∨ s.result = .hardwareTimeout ∨ s.result = .transmissionFailed) : InFlight s := by
  constructor <;> simp [hf, hp, hl]

/-- The ranges speak of nine registers only. -/
theorem InFlight.congr {s t : State} (hs : InFlight s) (hfsm : t.fsm = s.fsm := by rfl) (hpkt : t.pkt = s.pkt := by rfl)
    (hsmart : t.pendSmart = s.pendSmart := by rfl) (hfan : t.pendFan = s.pendFan := by rfl)
    (hlight : t.pendLight = s.pendLight := by rfl) (hpidx : t.pidx = s.pidx := by rfl)
    (hdcnt : t.dcnt = s.dcnt := by rfl) (htimer : t.timer = s.timer := by rfl)
    (hresult : t.result = s.result := by rfl) : InFlight t := by
  obtain ⟨hpacket, hposition, hwaiting, hunsettled, hleaving⟩ := hs
  constructor
  · exact fun hi => (hpacket (hfsm ▸ hi)).congr hpkt hsmart hfan hlight
  · simpa only [OnPulse, hfsm, hpkt, hpidx, hdcnt] using hposition
  · simpa only [hfsm, htimer] using hwaiting
  · simpa only [hfsm, hresult] using hunsettled
  · simpa only [hfsm, hresult] using hleaving

/-- At the first tick of a pulse all its ticks are still to be emitted, and there is one at least (41_modulator.md R157). -/
theorem onPulse_of_pulse_start {s : State} (hp : s.pidx < (modulate cfg s.pkt).length)
    (hd : s.dcnt = pulseDuration (modulate cfg s.pkt) s.pidx) : OnPulse cfg s :=
  ⟨hp, hd ▸ one_le_pulseDuration _ _ hp, hd.le⟩

/-! ### The ranges along a step -/

/-- The step of a busy state moves no register of the packet or of its pending values. -/
theorem PacketPending.fsmStep {s : State} (hp : PacketPending s) (c : Config) : PacketPending (fsmStep c s) := by
  obtain ⟨_, _, _, _, _, hpkt, _, _, hsmart, hfan, hlight, _⟩ := fsmStep_keeps c s
  exact hp.congr hpkt hsmart hfan hlight

/-- The step of `FSM` keeps the ranges: each branch of a busy state's step leads to a state whose own range it meets. -/
theorem InFlight.fsmStep {s : State} (hs : InFlight s) : InFlight (fsmStep cfg s) := by
  obtain ⟨hpacket, hposition, hwaiting, hunsettled, hleaving⟩ := hs
  have hp (hi : s.fsm ≠ .idle) : PacketPending (Machine.fsmStep cfg s) := (hpacket hi).fsmStep cfg
  cases hf : s.fsm with
  | idle => exact inFlight_of_idle (by rw [fsmStep_of_idle cfg hf, hf])
  | poweringUp =>
    have hn : s.result = .none := hunsettled (.inl hf)
    replace hp := hp (by simp [hf])
    rw [fsmStep_of_poweringUp cfg hf] at hp ⊢
    rcases poweringUpStep_cases s with ⟨_, _, h⟩ | ⟨_, h⟩ <;> rw [h] at hp ⊢
    · exact inFlight_of_poweringDown rfl hp (.inr (.inr rfl))
    · exact inFlight_of_awaitingReady rfl hp one_le_cfg_readyTimeout hn
  | awaitingReady =>
    have hn : s.result = .none := hunsettled (.inr (.inl hf))
    replace hp := hp (by simp [hf])
    rw [fsmStep_of_awaitingReady cfg hf] at hp ⊢
    rcases awaitingReadyStep_cases cfg s with ⟨_, h⟩ | ⟨_, _, h⟩ | ⟨_, ht, h⟩ <;> rw [h] at hp ⊢
    · exact inFlight_of_transmitting rfl hp (onPulse_of_pulse_start (modulate_cfg_pos s.pkt) rfl) hn
    · exact inFlight_of_poweringDown rfl hp (.inr (.inl rfl))
    · exact inFlight_of_awaitingReady hf hp ht hn
  | transmitting =>
    have hn : s.result = .none := hunsettled (.inr (.inr hf))
    obtain ⟨hpos, _, hle⟩ := hposition hf
    replace hp := hp (by simp [hf])
    rcases fsmStep_transmitting_cases cfg hf with ⟨_, h⟩ | ⟨_, hd, h⟩ | ⟨_, _, hnext, h⟩ | ⟨_, _, _, h⟩ <;>
      rw [h] at hp ⊢
    · exact inFlight_of_poweringDown rfl hp (.inr (.inr rfl))
    · exact inFlight_of_transmitting hf hp
        ⟨hpos, Nat.le_sub_of_add_le hd, (Nat.sub_le s.dcnt 1).trans hle⟩ hn
    · exact inFlight_of_transmitting hf hp (onPulse_of_pulse_start hnext rfl) hn
    · exact inFlight_of_poweringDown rfl hp (.inl hn)
  | poweringDown => exact inFlight_of_idle (fsmStep_lines_of_poweringDown cfg hf).1

/-- A tick in Idle stays there, or begins a transmission of the packet of the values it stores (42_handshake.md R173). -/
theorem inFlight_dispatchTick_of_idle {s : State} (hr : s.inputs.rst = false) (hi : s.fsm = .idle) :
    InFlight (dispatchTick cfg s) := by
  rcases dispatchTick_idle_cases cfg s hr hi with h | ⟨_, h⟩ | ⟨_, _, _, _, _, h⟩ | ⟨_, _, _, _, _, h⟩ |
    ⟨_, _, _, h⟩ | ⟨_, _, _, h⟩ | ⟨_, _, _, _, f, l, h⟩ | ⟨_, _, _, _, f, l, _, h⟩ | ⟨_, _, _, _, a, f, p, _, h⟩ |
    ⟨_, _, _, _, a, f, l, p, _, h⟩ <;> rw [h]
  -- the last two cases are the accepted transmissions; the others leave `FSM`
  on_goal 9 => exact inFlight_of_poweringUp rfl (packetPending_dumb ..) rfl
  on_goal 9 => exact inFlight_of_poweringUp rfl (packetPending_smart ..) rfl
  all_goals exact inFlight_of_idle hi

/-- Every tick keeps the ranges. -/
theorem InFlight.dispatchTick {s : State} (hs : InFlight s) : InFlight (dispatchTick cfg s) := by
  cases hr : s.inputs.rst with
  | true => exact inFlight_of_idle (by rw [dispatchTick_reset hr]; rfl)
  | false =>
    by_cases hi : s.fsm = .idle
    · exact inFlight_dispatchTick_of_idle hr hi
    · obtain ⟨b, h, _⟩ := dispatchTick_busy_cases cfg s hr hi
      rw [h]
      exact hs.fsmStep.congr

/-! ### The fan registers -/

/-- In Idle only the last-known fan counts. -/
theorem fansInSet_of_idle {s : State} (hf : s.fsm = .idle) (hl : s.lastFan ∈ cfg.fanSet) : FansInSet s :=
  ⟨hl, fun hi => absurd hf hi⟩

/-- The fan registers after reset: `FAN_DEFAULT` is a member (00_scope.md R8). -/
theorem fansInSet_reset : FansInSet State.reset := fansInSet_of_idle rfl (by decide)

/-- The step of a busy state keeps the pending fan, and commits no other (42_handshake.md R180). -/
theorem FansInSet.fsmStep {s : State} (hs : FansInSet s) (c : Config) (hi : s.fsm ≠ .idle) :
    FansInSet (fsmStep c s) := by
  have hpend := hs.pending hi
  obtain ⟨_, _, _, _, _, _, _, _, _, hfan, _⟩ := fsmStep_keeps c s
  refine ⟨?_, fun _ => hfan ▸ hpend⟩
  rcases fsmStep_lastFan c s with h | h <;> rw [h]
  · exact hs.last
  · exact hpend

/-- A command's fan is a member of `FAN_SET`, or the last-known one, which is one too. -/
theorem FansInSet.dispatchTick_of_idle {s : State} (hs : FansInSet s) (hr : s.inputs.rst = false) (hi : s.fsm = .idle) :
    FansInSet (dispatchTick cfg s) := by
  have hlast := hs.last
  have hcarried {f : FanCommand} (hf : f ∈ cfg.fanSet ∨ f = s.lastFan) : f ∈ cfg.fanSet :=
    hf.elim id fun h => h ▸ hlast
  rcases dispatchTick_idle_cases cfg s hr hi with h | ⟨_, h⟩ | ⟨_, _, _, _, _, h⟩ | ⟨_, _, _, _, _, h⟩ |
    ⟨_, _, _, h⟩ | ⟨_, _, _, h⟩ | ⟨_, _, _, _, f, l, h⟩ | ⟨_, _, _, _, f, l, hf, h⟩ | ⟨_, _, _, _, a, f, p, hf, h⟩ |
    ⟨_, _, _, _, a, f, l, p, hf, h⟩ <;> rw [h]
  -- the last three cases are a TXS under Dummy and the accepted transmissions; the others write no fan register
  on_goal 8 => exact fansInSet_of_idle hi (hcarried hf)
  on_goal 8 => exact ⟨hlast, fun _ => hf⟩
  on_goal 8 => exact ⟨hlast, fun _ => hcarried hf⟩
  all_goals exact fansInSet_of_idle hi hlast

/-- Every tick keeps members of `FAN_SET` in the fan registers. -/
theorem FansInSet.dispatchTick {s : State} (hs : FansInSet s) : FansInSet (dispatchTick cfg s) := by
  cases hr : s.inputs.rst with
  | true =>
    rw [dispatchTick_reset hr]
    exact fansInSet_of_idle rfl fansInSet_reset.last
  | false =>
    by_cases hi : s.fsm = .idle
    · exact hs.dispatchTick_of_idle hr hi
    · obtain ⟨b, h, _⟩ := dispatchTick_busy_cases cfg s hr hi
      obtain ⟨hlast, hpend⟩ := hs.fsmStep cfg hi
      rw [h]
      exact ⟨hlast, hpend⟩

/-! ### The obligations -/

/-- Settles O47: the step is the dispatch of a tick, which keeps both invariants. -/
theorem stepKeepsInFlight : Obligations.StepKeepsInFlight := by
  intro s t h
  obtain rfl := eq_of_step h
  refine ⟨fun hs => hs.dispatchTick.congr, fun hs => ?_⟩
  obtain ⟨hlast, hpend⟩ := hs.dispatchTick
  exact ⟨hlast, hpend⟩

/-- Settles O44: reset is Idle, with the lines low and `FAN_DEFAULT` in `LAST_FAN`. -/
theorem resetIsSafe : Obligations.ResetIsSafe := ⟨safeState_resetWith cfg, inFlight_of_idle rfl, fansInSet_reset⟩

end Sys2Proof.Safety

/-! PROOFS. The packet words and the symbols as instructions (assumptions 8, 9), and the four error entries
(60_exceptions.md R231 to R234). -/

namespace Sys2Proof.Safety

open Sys2Proof.Machine

/-! ### The packet words -/

/-- The first pulse of every packet is that of `SYNC`, four ticks long. -/
theorem pulseDuration_modulate_zero (b : Bits) : pulseDuration (modulate cfg b) 0 = 4 := rfl

theorem packetTick_of_idle (b : Bits) {s : State} (hf : s.fsm = .idle) : packetTick cfg b s = { s with pkt := b } :=
  fsmStep_of_idle cfg (s := holdPacket b s) hf

/-- Where the ready line is high the burst of the packet begins (42_handshake.md R176). -/
theorem packetTick_of_ready (b : Bits) {s : State} (hf : s.fsm = .awaitingReady) (hy : s.inputs.readyIn = true) :
    packetTick cfg b s = { s with pkt := b, pidx := 0, dcnt := 4, fsm := .transmitting } := by
  have hin : (holdPacket b s).inputs.readyIn = true := hy
  rw [packetTick, fsmStep_of_awaitingReady cfg (s := holdPacket b s) hf, awaitingReadyStep, if_pos hin,
    pulseDuration_modulate_zero]
  rfl

/-- Settles O31: the driver's tick on the encoded packet, which has the layout of 30_encoding.md R90. -/
theorem pktDumbResult : Obligations.PktDumbResult := by
  intro a f s
  rw [exec_eq_wordTick, wordTick, encodeDumb_eq_dumbLayout]
  exact ⟨rfl, fun hf => by rw [packetTick_of_idle _ hf], fun hf hy => by rw [packetTick_of_ready _ hf hy]⟩

/-- Settles O32: the driver's tick on the encoded packet, which has the layout of 30_encoding.md R91. -/
theorem pktSmartResult : Obligations.PktSmartResult := by
  intro a f l s
  rw [exec_eq_wordTick, wordTick, encodeSmart_eq_smartLayout]
  exact ⟨rfl, fun hf => by rw [packetTick_of_idle _ hf], fun hf hy => by rw [packetTick_of_ready _ hf hy]⟩

/-! ### The symbol under a position, with the default table -/

/-- Every symbol of the default table has two pulses, so the position counts the symbols by twos. -/
theorem locateSymbol_cfg (ys : List Symbol) (j : Nat) {e : Nat} (he : e < 2) :
    locateSymbol cfg ys (2 * j + e) = ys[j]?.map fun y => (y, e) := by
  have hlen (y : Symbol) : (symbolPulses cfg y).length = 2 := by cases y <;> rfl
  induction ys generalizing j with
  | nil => rfl
  | cons y ys ih =>
    cases j with
    | zero => simp [locateSymbol, hlen, he]
    | succ j =>
      have hk : 2 * (j + 1) + e = 2 * j + e + 2 := by omega
      simp [locateSymbol, hlen, hk, ih]

theorem symbolAt_sync {s : State} (hp : s.pidx < 2) : symbolAt cfg s = some (.sync, s.pidx) := by
  simpa [symbolAt, packetSymbols] using locateSymbol_cfg (packetSymbols s.pkt) 0 hp

/-- Bit `j`'s symbol follows the two pulses of `SYNC` and those of the bits before it. -/
theorem symbolAt_bit {s : State} {j e : Nat} {x : Bool} (hx : s.pkt[j]? = some x) (he : e < 2)
    (hp : s.pidx = 2 + 2 * j + e) : symbolAt cfg s = some (bitSymbol x, e) := by
  have hpos : s.pidx = 2 * (j + 1) + e := by omega
  simp [symbolAt, hpos, locateSymbol_cfg _ _ he, packetSymbols, hx]

/-- Every symbol of the default table is `on` and then `off` (30_encoding.md R92). -/
theorem symbolLevel_of_symbolAt {s : State} {y : Symbol} {e : Nat} (h : symbolAt cfg s = some (y, e)) (he : e < 2) :
    symbolLevel cfg y s = decide (e = 0) := by
  rw [symbolLevel, h]
  interval_cases e <;> cases y <;> rfl

/-! ### The symbols as instructions -/

/-- A symbol as an instruction is the tick on that symbol. -/
theorem exec_symbolInstr (y : Symbol) (s : State) : exec (symbolInstr y) s = .next (symbolTick cfg y s) := by
  cases y <;> rfl

/-- The symbol under the position, without a bus failure: its level is emitted and the position moves on
(42_handshake.md R178). -/
theorem exec_symbolInstr_of_symbolAt {s : State} {y : Symbol} {e : Nat} (hf : s.fsm = .transmitting)
    (h : symbolAt cfg s = some (y, e)) (he : e < 2) (hb : s.inputs.busErr = false) :
    exec (symbolInstr y) s = .next (afterEmission (decide (e = 0)) s) := by
  rw [exec_symbolInstr, symbolTick, if_pos hf, symbolLevel_of_symbolAt h he, emitTick, if_neg (by simp [hb])]
  rfl

/-- Settles O33: the first two positions are those of `SYNC`. -/
theorem syncResult : Obligations.SyncResult := fun _ hf hp hb =>
  exec_symbolInstr_of_symbolAt hf (symbolAt_sync hp) hp hb

/-- Settles O34: the symbol of a bit that is 0 is `SYM0`. -/
theorem symZeroResult : Obligations.SymZeroResult := fun _ _ _ hf hx he hp hb =>
  exec_symbolInstr_of_symbolAt hf (symbolAt_bit hx he hp) he hb

/-- Settles O35: the symbol of a bit that is 1 is `SYM1`. -/
theorem symOneResult : Obligations.SymOneResult := fun _ _ _ hf hx he hp hb =>
  exec_symbolInstr_of_symbolAt hf (symbolAt_bit hx he hp) he hb

/-! ### The error entries -/

/-- The entry of `TransmissionFailed` in the burst forces `TX` to 0 (60_exceptions.md R234). -/
theorem raise_transmissionFailed_eq {s : State} (hf : s.fsm = .transmitting) :
    raise .transmissionFailed s = { s with result := .transmissionFailed, tx := false, fsm := .poweringDown } := by
  simp [raise, hf]

/-- Settles O36: a bus failure wins over the level of any symbol, and outside Transmitting no symbol is looked at. -/
theorem symbolFailureResult : Obligations.SymbolFailureResult := by
  intro i s hi
  obtain ⟨y, rfl⟩ : ∃ y, i = symbolInstr y := by
    rcases hi with rfl | rfl | rfl
    exacts [⟨.sync, rfl⟩, ⟨.sym0, rfl⟩, ⟨.sym1, rfl⟩]
  rw [exec_symbolInstr, symbolTick]
  exact ⟨fun hf he => by rw [if_pos hf, emitTick, if_pos he, raise_transmissionFailed_eq hf],
    fun hf => by rw [if_neg hf]⟩

/-- Settles O41: three entries write their registers in every state, the fourth looks at `FSM`. -/
theorem errorEntries : Obligations.ErrorEntries := fun _ =>
  ⟨rfl, rfl, rfl, raise_transmissionFailed_eq⟩

end Sys2Proof.Safety
